-- ==== Sys2Proof/Word.lean ====
section
/-! DEFINITION. The word types, and the names the spec gives to operand fields (00_scope.md R8, 30_encoding.md R310-R317). -/

namespace Sys2Proof

/-- A byte: 8 bits (R8). -/
abbrev Byte := BitVec 8

/-- A word: 16 bits, the width of an address, of PC, of SP and of a register pair (R5, R8). -/
abbrev Word := BitVec 16

/-- The register operand `r8(code)` of R310 without code 6, which names `(HL)` and is no register. -/
inductive R8 where
  | b | c | d | e | h | l | a
deriving DecidableEq, Repr

/-- The register-pair field `rp(code)` of R311. -/
inductive Rp where
  | bc | de | hl | sp
deriving DecidableEq, Repr

/-- The register-pair field `rp2(code)` of R312, for PUSH and POP. -/
inductive Rp2 where
  | bc | de | hl | af
deriving DecidableEq, Repr

/-- The condition field `cc(code)` of R313. -/
inductive Cond where
  | nz | z | nc | c
deriving DecidableEq, Repr

/-- The ALU field of R314. -/
inductive Alu where
  | add | adc | sub | sbc | and | xor | or | cp
deriving DecidableEq, Repr

/-- The CB rotate and shift field of R315. -/
inductive Rot where
  | rlc | rrc | rl | rr | sla | sra | swap | srl
deriving DecidableEq, Repr

/-- A 3-bit field value: the bit index of BIT, RES, SET (R316) and the RST number (R317). -/
inductive Oct where
  | o0 | o1 | o2 | o3 | o4 | o5 | o6 | o7
deriving DecidableEq, Repr

/-- The number a 3-bit field stands for. -/
def Oct.toNat : Oct → Nat
  | .o0 => 0 | .o1 => 1 | .o2 => 2 | .o3 => 3 | .o4 => 4 | .o5 => 5 | .o6 => 6 | .o7 => 7

/-- The eleven opcode bytes that spell no instruction (R340). -/
inductive Illegal where
  | xD3 | xDB | xDD | xE3 | xE4 | xEB | xEC | xED | xF4 | xFC | xFD
deriving DecidableEq, Repr

end Sys2Proof
end

