-- ==== Sys2Proof/Syntax.lean ====
section
/-! DEFINITION. The instruction set: one constructor for each of the 511 rows of spec/opcode_table.json, the opcodes
0x00-0x3F and 0xC0-0xFF first (Lean's runtime wants constructors with arguments among the first 244), then 0x40-0xBF, then the CB page;
and the views of the constructors by operand field (30_encoding.md R305) that statements and proofs quantify over. -/

namespace Sys2Proof

/-- The instructions. The docstring of a constructor gives the spec's spelling, its first byte (or CB byte) and its rule.
Immediate operands are bytes and words as fetched: `n` for d8 and a8, `e` for e8, `nn` for d16 and a16 (R320). -/
inductive Instr where
  /-- `NOP`, 00, R900. -/
  | nop
  /-- `LD BC,d16`, 01, R420. -/
  | ldBcD16 (nn : Word)
  /-- `LD (BC),A`, 02, R408. -/
  | ldIndBcA
  /-- `INC BC`, 03, R602. -/
  | incBc
  /-- `INC B`, 04, R518. -/
  | incB
  /-- `DEC B`, 05, R520. -/
  | decB
  /-- `LD B,d8`, 06, R402. -/
  | ldBD8 (n : Byte)
  /-- `RLCA`, 07, R701. -/
  | rlca
  /-- `LD (a16),SP`, 08, R421. -/
  | ldIndA16Sp (nn : Word)
  /-- `ADD HL,BC`, 09, R601. -/
  | addHlBc
  /-- `LD A,(BC)`, 0A, R406. -/
  | ldAIndBc
  /-- `DEC BC`, 0B, R603. -/
  | decBc
  /-- `INC C`, 0C, R518. -/
  | incC
  /-- `DEC C`, 0D, R520. -/
  | decC
  /-- `LD C,d8`, 0E, R402. -/
  | ldCD8 (n : Byte)
  /-- `RRCA`, 0F, R702. -/
  | rrca
  /-- `STOP`, 10, R902. -/
  | stop (n : Byte)
  /-- `LD DE,d16`, 11, R420. -/
  | ldDeD16 (nn : Word)
  /-- `LD (DE),A`, 12, R409. -/
  | ldIndDeA
  /-- `INC DE`, 13, R602. -/
  | incDe
  /-- `INC D`, 14, R518. -/
  | incD
  /-- `DEC D`, 15, R520. -/
  | decD
  /-- `LD D,d8`, 16, R402. -/
  | ldDD8 (n : Byte)
  /-- `RLA`, 17, R703. -/
  | rla
  /-- `JR e8`, 18, R804. -/
  | jrE8 (e : Byte)
  /-- `ADD HL,DE`, 19, R601. -/
  | addHlDe
  /-- `LD A,(DE)`, 1A, R407. -/
  | ldAIndDe
  /-- `DEC DE`, 1B, R603. -/
  | decDe
  /-- `INC E`, 1C, R518. -/
  | incE
  /-- `DEC E`, 1D, R520. -/
  | decE
  /-- `LD E,d8`, 1E, R402. -/
  | ldED8 (n : Byte)
  /-- `RRA`, 1F, R704. -/
  | rra
  /-- `JR NZ,e8`, 20, R805. -/
  | jrNzE8 (e : Byte)
  /-- `LD HL,d16`, 21, R420. -/
  | ldHlD16 (nn : Word)
  /-- `LD (HL+),A`, 22, R419. -/
  | ldIndHliA
  /-- `INC HL`, 23, R602. -/
  | incHl
  /-- `INC H`, 24, R518. -/
  | incH
  /-- `DEC H`, 25, R520. -/
  | decH
  /-- `LD H,d8`, 26, R402. -/
  | ldHD8 (n : Byte)
  /-- `DAA`, 27, R522. -/
  | daa
  /-- `JR Z,e8`, 28, R805. -/
  | jrZE8 (e : Byte)
  /-- `ADD HL,HL`, 29, R601. -/
  | addHlHl
  /-- `LD A,(HL+)`, 2A, R418. -/
  | ldAIndHli
  /-- `DEC HL`, 2B, R603. -/
  | decHl
  /-- `INC L`, 2C, R518. -/
  | incL
  /-- `DEC L`, 2D, R520. -/
  | decL
  /-- `LD L,d8`, 2E, R402. -/
  | ldLD8 (n : Byte)
  /-- `CPL`, 2F, R523. -/
  | cplA
  /-- `JR NC,e8`, 30, R805. -/
  | jrNcE8 (e : Byte)
  /-- `LD SP,d16`, 31, R420. -/
  | ldSpD16 (nn : Word)
  /-- `LD (HL-),A`, 32, R417. -/
  | ldIndHldA
  /-- `INC SP`, 33, R602. -/
  | incSp
  /-- `INC (HL)`, 34, R519. -/
  | incIndHl
  /-- `DEC (HL)`, 35, R521. -/
  | decIndHl
  /-- `LD (HL),d8`, 36, R405. -/
  | ldIndHlD8 (n : Byte)
  /-- `SCF`, 37, R524. -/
  | scf
  /-- `JR C,e8`, 38, R805. -/
  | jrCE8 (e : Byte)
  /-- `ADD HL,SP`, 39, R601. -/
  | addHlSp
  /-- `LD A,(HL-)`, 3A, R416. -/
  | ldAIndHld
  /-- `DEC SP`, 3B, R603. -/
  | decSp
  /-- `INC A`, 3C, R518. -/
  | incA
  /-- `DEC A`, 3D, R520. -/
  | decA
  /-- `LD A,d8`, 3E, R402. -/
  | ldAD8 (n : Byte)
  /-- `CCF`, 3F, R525. -/
  | ccf
  /-- `RET NZ`, C0, R809. -/
  | retNz
  /-- `POP BC`, C1, R424. -/
  | popBc
  /-- `JP NZ,a16`, C2, R802. -/
  | jpNzA16 (nn : Word)
  /-- `JP a16`, C3, R801. -/
  | jpA16 (nn : Word)
  /-- `CALL NZ,a16`, C4, R807. -/
  | callNzA16 (nn : Word)
  /-- `PUSH BC`, C5, R423. -/
  | pushBc
  /-- `ADD A,d8`, C6, R510. -/
  | addAD8 (n : Byte)
  /-- `RST 00H`, C7, R811. -/
  | rst00
  /-- `RET Z`, C8, R809. -/
  | retZ
  /-- `RET`, C9, R808. -/
  | ret
  /-- `JP Z,a16`, CA, R802. -/
  | jpZA16 (nn : Word)
  /-- `CALL Z,a16`, CC, R807. -/
  | callZA16 (nn : Word)
  /-- `CALL a16`, CD, R806. -/
  | callA16 (nn : Word)
  /-- `ADC A,d8`, CE, R511. -/
  | adcAD8 (n : Byte)
  /-- `RST 08H`, CF, R811. -/
  | rst08
  /-- `RET NC`, D0, R809. -/
  | retNc
  /-- `POP DE`, D1, R424. -/
  | popDe
  /-- `JP NC,a16`, D2, R802. -/
  | jpNcA16 (nn : Word)
  /-- `illegal opcode`, D3, R905. -/
  | illegalD3
  /-- `CALL NC,a16`, D4, R807. -/
  | callNcA16 (nn : Word)
  /-- `PUSH DE`, D5, R423. -/
  | pushDe
  /-- `SUB d8`, D6, R512. -/
  | subD8 (n : Byte)
  /-- `RST 10H`, D7, R811. -/
  | rst10
  /-- `RET C`, D8, R809. -/
  | retC
  /-- `RETI`, D9, R810. -/
  | reti
  /-- `JP C,a16`, DA, R802. -/
  | jpCA16 (nn : Word)
  /-- `illegal opcode`, DB, R905. -/
  | illegalDB
  /-- `CALL C,a16`, DC, R807. -/
  | callCA16 (nn : Word)
  /-- `illegal opcode`, DD, R905. -/
  | illegalDD
  /-- `SBC A,d8`, DE, R513. -/
  | sbcAD8 (n : Byte)
  /-- `RST 18H`, DF, R811. -/
  | rst18
  /-- `LDH (a8),A`, E0, R415. -/
  | ldhIndA8A (n : Byte)
  /-- `POP HL`, E1, R424. -/
  | popHl
  /-- `LDH (C),A`, E2, R413. -/
  | ldhIndCA
  /-- `illegal opcode`, E3, R905. -/
  | illegalE3
  /-- `illegal opcode`, E4, R905. -/
  | illegalE4
  /-- `PUSH HL`, E5, R423. -/
  | pushHl
  /-- `AND d8`, E6, R514. -/
  | andD8 (n : Byte)
  /-- `RST 20H`, E7, R811. -/
  | rst20
  /-- `ADD SP,e8`, E8, R605. -/
  | addSpE8 (e : Byte)
  /-- `JP HL`, E9, R803. -/
  | jpHl
  /-- `LD (a16),A`, EA, R411. -/
  | ldIndA16A (nn : Word)
  /-- `illegal opcode`, EB, R905. -/
  | illegalEB
  /-- `illegal opcode`, EC, R905. -/
  | illegalEC
  /-- `illegal opcode`, ED, R905. -/
  | illegalED
  /-- `XOR d8`, EE, R515. -/
  | xorD8 (n : Byte)
  /-- `RST 28H`, EF, R811. -/
  | rst28
  /-- `LDH A,(a8)`, F0, R414. -/
  | ldhAIndA8 (n : Byte)
  /-- `POP AF`, F1, R425. -/
  | popAf
  /-- `LDH A,(C)`, F2, R412. -/
  | ldhAIndC
  /-- `DI`, F3, R903. -/
  | di
  /-- `illegal opcode`, F4, R905. -/
  | illegalF4
  /-- `PUSH AF`, F5, R423. -/
  | pushAf
  /-- `OR d8`, F6, R516. -/
  | orD8 (n : Byte)
  /-- `RST 30H`, F7, R811. -/
  | rst30
  /-- `LD HL,SP+e8`, F8, R606. -/
  | ldHlSpE8 (e : Byte)
  /-- `LD SP,HL`, F9, R422. -/
  | ldSpHl
  /-- `LD A,(a16)`, FA, R410. -/
  | ldAIndA16 (nn : Word)
  /-- `EI`, FB, R904. -/
  | ei
  /-- `illegal opcode`, FC, R905. -/
  | illegalFC
  /-- `illegal opcode`, FD, R905. -/
  | illegalFD
  /-- `CP d8`, FE, R517. -/
  | cpD8 (n : Byte)
  /-- `RST 38H`, FF, R811. -/
  | rst38
  /-- `LD B,B`, 40, R401. -/
  | ldBB
  /-- `LD B,C`, 41, R401. -/
  | ldBC
  /-- `LD B,D`, 42, R401. -/
  | ldBD
  /-- `LD B,E`, 43, R401. -/
  | ldBE
  /-- `LD B,H`, 44, R401. -/
  | ldBH
  /-- `LD B,L`, 45, R401. -/
  | ldBL
  /-- `LD B,(HL)`, 46, R403. -/
  | ldBIndHl
  /-- `LD B,A`, 47, R401. -/
  | ldBA
  /-- `LD C,B`, 48, R401. -/
  | ldCB
  /-- `LD C,C`, 49, R401. -/
  | ldCC
  /-- `LD C,D`, 4A, R401. -/
  | ldCD
  /-- `LD C,E`, 4B, R401. -/
  | ldCE
  /-- `LD C,H`, 4C, R401. -/
  | ldCH
  /-- `LD C,L`, 4D, R401. -/
  | ldCL
  /-- `LD C,(HL)`, 4E, R403. -/
  | ldCIndHl
  /-- `LD C,A`, 4F, R401. -/
  | ldCA
  /-- `LD D,B`, 50, R401. -/
  | ldDB
  /-- `LD D,C`, 51, R401. -/
  | ldDC
  /-- `LD D,D`, 52, R401. -/
  | ldDD
  /-- `LD D,E`, 53, R401. -/
  | ldDE
  /-- `LD D,H`, 54, R401. -/
  | ldDH
  /-- `LD D,L`, 55, R401. -/
  | ldDL
  /-- `LD D,(HL)`, 56, R403. -/
  | ldDIndHl
  /-- `LD D,A`, 57, R401. -/
  | ldDA
  /-- `LD E,B`, 58, R401. -/
  | ldEB
  /-- `LD E,C`, 59, R401. -/
  | ldEC
  /-- `LD E,D`, 5A, R401. -/
  | ldED
  /-- `LD E,E`, 5B, R401. -/
  | ldEE
  /-- `LD E,H`, 5C, R401. -/
  | ldEH
  /-- `LD E,L`, 5D, R401. -/
  | ldEL
  /-- `LD E,(HL)`, 5E, R403. -/
  | ldEIndHl
  /-- `LD E,A`, 5F, R401. -/
  | ldEA
  /-- `LD H,B`, 60, R401. -/
  | ldHB
  /-- `LD H,C`, 61, R401. -/
  | ldHC
  /-- `LD H,D`, 62, R401. -/
  | ldHD
  /-- `LD H,E`, 63, R401. -/
  | ldHE
  /-- `LD H,H`, 64, R401. -/
  | ldHH
  /-- `LD H,L`, 65, R401. -/
  | ldHL
  /-- `LD H,(HL)`, 66, R403. -/
  | ldHIndHl
  /-- `LD H,A`, 67, R401. -/
  | ldHA
  /-- `LD L,B`, 68, R401. -/
  | ldLB
  /-- `LD L,C`, 69, R401. -/
  | ldLC
  /-- `LD L,D`, 6A, R401. -/
  | ldLD
  /-- `LD L,E`, 6B, R401. -/
  | ldLE
  /-- `LD L,H`, 6C, R401. -/
  | ldLH
  /-- `LD L,L`, 6D, R401. -/
  | ldLL
  /-- `LD L,(HL)`, 6E, R403. -/
  | ldLIndHl
  /-- `LD L,A`, 6F, R401. -/
  | ldLA
  /-- `LD (HL),B`, 70, R404. -/
  | ldIndHlB
  /-- `LD (HL),C`, 71, R404. -/
  | ldIndHlC
  /-- `LD (HL),D`, 72, R404. -/
  | ldIndHlD
  /-- `LD (HL),E`, 73, R404. -/
  | ldIndHlE
  /-- `LD (HL),H`, 74, R404. -/
  | ldIndHlH
  /-- `LD (HL),L`, 75, R404. -/
  | ldIndHlL
  /-- `HALT`, 76, R901. -/
  | halt
  /-- `LD (HL),A`, 77, R404. -/
  | ldIndHlA
  /-- `LD A,B`, 78, R401. -/
  | ldAB
  /-- `LD A,C`, 79, R401. -/
  | ldAC
  /-- `LD A,D`, 7A, R401. -/
  | ldAD
  /-- `LD A,E`, 7B, R401. -/
  | ldAE
  /-- `LD A,H`, 7C, R401. -/
  | ldAH
  /-- `LD A,L`, 7D, R401. -/
  | ldAL
  /-- `LD A,(HL)`, 7E, R403. -/
  | ldAIndHl
  /-- `LD A,A`, 7F, R401. -/
  | ldAA
  /-- `ADD A,B`, 80, R510. -/
  | addAB
  /-- `ADD A,C`, 81, R510. -/
  | addAC
  /-- `ADD A,D`, 82, R510. -/
  | addAD
  /-- `ADD A,E`, 83, R510. -/
  | addAE
  /-- `ADD A,H`, 84, R510. -/
  | addAH
  /-- `ADD A,L`, 85, R510. -/
  | addAL
  /-- `ADD A,(HL)`, 86, R510. -/
  | addAIndHl
  /-- `ADD A,A`, 87, R510. -/
  | addAA
  /-- `ADC A,B`, 88, R511. -/
  | adcAB
  /-- `ADC A,C`, 89, R511. -/
  | adcAC
  /-- `ADC A,D`, 8A, R511. -/
  | adcAD
  /-- `ADC A,E`, 8B, R511. -/
  | adcAE
  /-- `ADC A,H`, 8C, R511. -/
  | adcAH
  /-- `ADC A,L`, 8D, R511. -/
  | adcAL
  /-- `ADC A,(HL)`, 8E, R511. -/
  | adcAIndHl
  /-- `ADC A,A`, 8F, R511. -/
  | adcAA
  /-- `SUB B`, 90, R512. -/
  | subB
  /-- `SUB C`, 91, R512. -/
  | subC
  /-- `SUB D`, 92, R512. -/
  | subD
  /-- `SUB E`, 93, R512. -/
  | subE
  /-- `SUB H`, 94, R512. -/
  | subH
  /-- `SUB L`, 95, R512. -/
  | subL
  /-- `SUB (HL)`, 96, R512. -/
  | subIndHl
  /-- `SUB A`, 97, R512. -/
  | subA
  /-- `SBC A,B`, 98, R513. -/
  | sbcAB
  /-- `SBC A,C`, 99, R513. -/
  | sbcAC
  /-- `SBC A,D`, 9A, R513. -/
  | sbcAD
  /-- `SBC A,E`, 9B, R513. -/
  | sbcAE
  /-- `SBC A,H`, 9C, R513. -/
  | sbcAH
  /-- `SBC A,L`, 9D, R513. -/
  | sbcAL
  /-- `SBC A,(HL)`, 9E, R513. -/
  | sbcAIndHl
  /-- `SBC A,A`, 9F, R513. -/
  | sbcAA
  /-- `AND B`, A0, R514. -/
  | andB
  /-- `AND C`, A1, R514. -/
  | andC
  /-- `AND D`, A2, R514. -/
  | andD
  /-- `AND E`, A3, R514. -/
  | andE
  /-- `AND H`, A4, R514. -/
  | andH
  /-- `AND L`, A5, R514. -/
  | andL
  /-- `AND (HL)`, A6, R514. -/
  | andIndHl
  /-- `AND A`, A7, R514. -/
  | andA
  /-- `XOR B`, A8, R515. -/
  | xorB
  /-- `XOR C`, A9, R515. -/
  | xorC
  /-- `XOR D`, AA, R515. -/
  | xorD
  /-- `XOR E`, AB, R515. -/
  | xorE
  /-- `XOR H`, AC, R515. -/
  | xorH
  /-- `XOR L`, AD, R515. -/
  | xorL
  /-- `XOR (HL)`, AE, R515. -/
  | xorIndHl
  /-- `XOR A`, AF, R515. -/
  | xorA
  /-- `OR B`, B0, R516. -/
  | orB
  /-- `OR C`, B1, R516. -/
  | orC
  /-- `OR D`, B2, R516. -/
  | orD
  /-- `OR E`, B3, R516. -/
  | orE
  /-- `OR H`, B4, R516. -/
  | orH
  /-- `OR L`, B5, R516. -/
  | orL
  /-- `OR (HL)`, B6, R516. -/
  | orIndHl
  /-- `OR A`, B7, R516. -/
  | orA
  /-- `CP B`, B8, R517. -/
  | cpB
  /-- `CP C`, B9, R517. -/
  | cpC
  /-- `CP D`, BA, R517. -/
  | cpD
  /-- `CP E`, BB, R517. -/
  | cpE
  /-- `CP H`, BC, R517. -/
  | cpH
  /-- `CP L`, BD, R517. -/
  | cpL
  /-- `CP (HL)`, BE, R517. -/
  | cpIndHl
  /-- `CP A`, BF, R517. -/
  | cpA
  /-- `RLC B`, CB 00, R711. -/
  | cbRlcB
  /-- `RLC C`, CB 01, R711. -/
  | cbRlcC
  /-- `RLC D`, CB 02, R711. -/
  | cbRlcD
  /-- `RLC E`, CB 03, R711. -/
  | cbRlcE
  /-- `RLC H`, CB 04, R711. -/
  | cbRlcH
  /-- `RLC L`, CB 05, R711. -/
  | cbRlcL
  /-- `RLC (HL)`, CB 06, R711. -/
  | cbRlcIndHl
  /-- `RLC A`, CB 07, R711. -/
  | cbRlcA
  /-- `RRC B`, CB 08, R712. -/
  | cbRrcB
  /-- `RRC C`, CB 09, R712. -/
  | cbRrcC
  /-- `RRC D`, CB 0A, R712. -/
  | cbRrcD
  /-- `RRC E`, CB 0B, R712. -/
  | cbRrcE
  /-- `RRC H`, CB 0C, R712. -/
  | cbRrcH
  /-- `RRC L`, CB 0D, R712. -/
  | cbRrcL
  /-- `RRC (HL)`, CB 0E, R712. -/
  | cbRrcIndHl
  /-- `RRC A`, CB 0F, R712. -/
  | cbRrcA
  /-- `RL B`, CB 10, R713. -/
  | cbRlB
  /-- `RL C`, CB 11, R713. -/
  | cbRlC
  /-- `RL D`, CB 12, R713. -/
  | cbRlD
  /-- `RL E`, CB 13, R713. -/
  | cbRlE
  /-- `RL H`, CB 14, R713. -/
  | cbRlH
  /-- `RL L`, CB 15, R713. -/
  | cbRlL
  /-- `RL (HL)`, CB 16, R713. -/
  | cbRlIndHl
  /-- `RL A`, CB 17, R713. -/
  | cbRlA
  /-- `RR B`, CB 18, R714. -/
  | cbRrB
  /-- `RR C`, CB 19, R714. -/
  | cbRrC
  /-- `RR D`, CB 1A, R714. -/
  | cbRrD
  /-- `RR E`, CB 1B, R714. -/
  | cbRrE
  /-- `RR H`, CB 1C, R714. -/
  | cbRrH
  /-- `RR L`, CB 1D, R714. -/
  | cbRrL
  /-- `RR (HL)`, CB 1E, R714. -/
  | cbRrIndHl
  /-- `RR A`, CB 1F, R714. -/
  | cbRrA
  /-- `SLA B`, CB 20, R715. -/
  | cbSlaB
  /-- `SLA C`, CB 21, R715. -/
  | cbSlaC
  /-- `SLA D`, CB 22, R715. -/
  | cbSlaD
  /-- `SLA E`, CB 23, R715. -/
  | cbSlaE
  /-- `SLA H`, CB 24, R715. -/
  | cbSlaH
  /-- `SLA L`, CB 25, R715. -/
  | cbSlaL
  /-- `SLA (HL)`, CB 26, R715. -/
  | cbSlaIndHl
  /-- `SLA A`, CB 27, R715. -/
  | cbSlaA
  /-- `SRA B`, CB 28, R716. -/
  | cbSraB
  /-- `SRA C`, CB 29, R716. -/
  | cbSraC
  /-- `SRA D`, CB 2A, R716. -/
  | cbSraD
  /-- `SRA E`, CB 2B, R716. -/
  | cbSraE
  /-- `SRA H`, CB 2C, R716. -/
  | cbSraH
  /-- `SRA L`, CB 2D, R716. -/
  | cbSraL
  /-- `SRA (HL)`, CB 2E, R716. -/
  | cbSraIndHl
  /-- `SRA A`, CB 2F, R716. -/
  | cbSraA
  /-- `SWAP B`, CB 30, R717. -/
  | cbSwapB
  /-- `SWAP C`, CB 31, R717. -/
  | cbSwapC
  /-- `SWAP D`, CB 32, R717. -/
  | cbSwapD
  /-- `SWAP E`, CB 33, R717. -/
  | cbSwapE
  /-- `SWAP H`, CB 34, R717. -/
  | cbSwapH
  /-- `SWAP L`, CB 35, R717. -/
  | cbSwapL
  /-- `SWAP (HL)`, CB 36, R717. -/
  | cbSwapIndHl
  /-- `SWAP A`, CB 37, R717. -/
  | cbSwapA
  /-- `SRL B`, CB 38, R718. -/
  | cbSrlB
  /-- `SRL C`, CB 39, R718. -/
  | cbSrlC
  /-- `SRL D`, CB 3A, R718. -/
  | cbSrlD
  /-- `SRL E`, CB 3B, R718. -/
  | cbSrlE
  /-- `SRL H`, CB 3C, R718. -/
  | cbSrlH
  /-- `SRL L`, CB 3D, R718. -/
  | cbSrlL
  /-- `SRL (HL)`, CB 3E, R718. -/
  | cbSrlIndHl
  /-- `SRL A`, CB 3F, R718. -/
  | cbSrlA
  /-- `BIT 0,B`, CB 40, R719. -/
  | cbBit0B
  /-- `BIT 0,C`, CB 41, R719. -/
  | cbBit0C
  /-- `BIT 0,D`, CB 42, R719. -/
  | cbBit0D
  /-- `BIT 0,E`, CB 43, R719. -/
  | cbBit0E
  /-- `BIT 0,H`, CB 44, R719. -/
  | cbBit0H
  /-- `BIT 0,L`, CB 45, R719. -/
  | cbBit0L
  /-- `BIT 0,(HL)`, CB 46, R719. -/
  | cbBit0IndHl
  /-- `BIT 0,A`, CB 47, R719. -/
  | cbBit0A
  /-- `BIT 1,B`, CB 48, R719. -/
  | cbBit1B
  /-- `BIT 1,C`, CB 49, R719. -/
  | cbBit1C
  /-- `BIT 1,D`, CB 4A, R719. -/
  | cbBit1D
  /-- `BIT 1,E`, CB 4B, R719. -/
  | cbBit1E
  /-- `BIT 1,H`, CB 4C, R719. -/
  | cbBit1H
  /-- `BIT 1,L`, CB 4D, R719. -/
  | cbBit1L
  /-- `BIT 1,(HL)`, CB 4E, R719. -/
  | cbBit1IndHl
  /-- `BIT 1,A`, CB 4F, R719. -/
  | cbBit1A
  /-- `BIT 2,B`, CB 50, R719. -/
  | cbBit2B
  /-- `BIT 2,C`, CB 51, R719. -/
  | cbBit2C
  /-- `BIT 2,D`, CB 52, R719. -/
  | cbBit2D
  /-- `BIT 2,E`, CB 53, R719. -/
  | cbBit2E
  /-- `BIT 2,H`, CB 54, R719. -/
  | cbBit2H
  /-- `BIT 2,L`, CB 55, R719. -/
  | cbBit2L
  /-- `BIT 2,(HL)`, CB 56, R719. -/
  | cbBit2IndHl
  /-- `BIT 2,A`, CB 57, R719. -/
  | cbBit2A
  /-- `BIT 3,B`, CB 58, R719. -/
  | cbBit3B
  /-- `BIT 3,C`, CB 59, R719. -/
  | cbBit3C
  /-- `BIT 3,D`, CB 5A, R719. -/
  | cbBit3D
  /-- `BIT 3,E`, CB 5B, R719. -/
  | cbBit3E
  /-- `BIT 3,H`, CB 5C, R719. -/
  | cbBit3H
  /-- `BIT 3,L`, CB 5D, R719. -/
  | cbBit3L
  /-- `BIT 3,(HL)`, CB 5E, R719. -/
  | cbBit3IndHl
  /-- `BIT 3,A`, CB 5F, R719. -/
  | cbBit3A
  /-- `BIT 4,B`, CB 60, R719. -/
  | cbBit4B
  /-- `BIT 4,C`, CB 61, R719. -/
  | cbBit4C
  /-- `BIT 4,D`, CB 62, R719. -/
  | cbBit4D
  /-- `BIT 4,E`, CB 63, R719. -/
  | cbBit4E
  /-- `BIT 4,H`, CB 64, R719. -/
  | cbBit4H
  /-- `BIT 4,L`, CB 65, R719. -/
  | cbBit4L
  /-- `BIT 4,(HL)`, CB 66, R719. -/
  | cbBit4IndHl
  /-- `BIT 4,A`, CB 67, R719. -/
  | cbBit4A
  /-- `BIT 5,B`, CB 68, R719. -/
  | cbBit5B
  /-- `BIT 5,C`, CB 69, R719. -/
  | cbBit5C
  /-- `BIT 5,D`, CB 6A, R719. -/
  | cbBit5D
  /-- `BIT 5,E`, CB 6B, R719. -/
  | cbBit5E
  /-- `BIT 5,H`, CB 6C, R719. -/
  | cbBit5H
  /-- `BIT 5,L`, CB 6D, R719. -/
  | cbBit5L
  /-- `BIT 5,(HL)`, CB 6E, R719. -/
  | cbBit5IndHl
  /-- `BIT 5,A`, CB 6F, R719. -/
  | cbBit5A
  /-- `BIT 6,B`, CB 70, R719. -/
  | cbBit6B
  /-- `BIT 6,C`, CB 71, R719. -/
  | cbBit6C
  /-- `BIT 6,D`, CB 72, R719. -/
  | cbBit6D
  /-- `BIT 6,E`, CB 73, R719. -/
  | cbBit6E
  /-- `BIT 6,H`, CB 74, R719. -/
  | cbBit6H
  /-- `BIT 6,L`, CB 75, R719. -/
  | cbBit6L
  /-- `BIT 6,(HL)`, CB 76, R719. -/
  | cbBit6IndHl
  /-- `BIT 6,A`, CB 77, R719. -/
  | cbBit6A
  /-- `BIT 7,B`, CB 78, R719. -/
  | cbBit7B
  /-- `BIT 7,C`, CB 79, R719. -/
  | cbBit7C
  /-- `BIT 7,D`, CB 7A, R719. -/
  | cbBit7D
  /-- `BIT 7,E`, CB 7B, R719. -/
  | cbBit7E
  /-- `BIT 7,H`, CB 7C, R719. -/
  | cbBit7H
  /-- `BIT 7,L`, CB 7D, R719. -/
  | cbBit7L
  /-- `BIT 7,(HL)`, CB 7E, R719. -/
  | cbBit7IndHl
  /-- `BIT 7,A`, CB 7F, R719. -/
  | cbBit7A
  /-- `RES 0,B`, CB 80, R720. -/
  | cbRes0B
  /-- `RES 0,C`, CB 81, R720. -/
  | cbRes0C
  /-- `RES 0,D`, CB 82, R720. -/
  | cbRes0D
  /-- `RES 0,E`, CB 83, R720. -/
  | cbRes0E
  /-- `RES 0,H`, CB 84, R720. -/
  | cbRes0H
  /-- `RES 0,L`, CB 85, R720. -/
  | cbRes0L
  /-- `RES 0,(HL)`, CB 86, R720. -/
  | cbRes0IndHl
  /-- `RES 0,A`, CB 87, R720. -/
  | cbRes0A
  /-- `RES 1,B`, CB 88, R720. -/
  | cbRes1B
  /-- `RES 1,C`, CB 89, R720. -/
  | cbRes1C
  /-- `RES 1,D`, CB 8A, R720. -/
  | cbRes1D
  /-- `RES 1,E`, CB 8B, R720. -/
  | cbRes1E
  /-- `RES 1,H`, CB 8C, R720. -/
  | cbRes1H
  /-- `RES 1,L`, CB 8D, R720. -/
  | cbRes1L
  /-- `RES 1,(HL)`, CB 8E, R720. -/
  | cbRes1IndHl
  /-- `RES 1,A`, CB 8F, R720. -/
  | cbRes1A
  /-- `RES 2,B`, CB 90, R720. -/
  | cbRes2B
  /-- `RES 2,C`, CB 91, R720. -/
  | cbRes2C
  /-- `RES 2,D`, CB 92, R720. -/
  | cbRes2D
  /-- `RES 2,E`, CB 93, R720. -/
  | cbRes2E
  /-- `RES 2,H`, CB 94, R720. -/
  | cbRes2H
  /-- `RES 2,L`, CB 95, R720. -/
  | cbRes2L
  /-- `RES 2,(HL)`, CB 96, R720. -/
  | cbRes2IndHl
  /-- `RES 2,A`, CB 97, R720. -/
  | cbRes2A
  /-- `RES 3,B`, CB 98, R720. -/
  | cbRes3B
  /-- `RES 3,C`, CB 99, R720. -/
  | cbRes3C
  /-- `RES 3,D`, CB 9A, R720. -/
  | cbRes3D
  /-- `RES 3,E`, CB 9B, R720. -/
  | cbRes3E
  /-- `RES 3,H`, CB 9C, R720. -/
  | cbRes3H
  /-- `RES 3,L`, CB 9D, R720. -/
  | cbRes3L
  /-- `RES 3,(HL)`, CB 9E, R720. -/
  | cbRes3IndHl
  /-- `RES 3,A`, CB 9F, R720. -/
  | cbRes3A
  /-- `RES 4,B`, CB A0, R720. -/
  | cbRes4B
  /-- `RES 4,C`, CB A1, R720. -/
  | cbRes4C
  /-- `RES 4,D`, CB A2, R720. -/
  | cbRes4D
  /-- `RES 4,E`, CB A3, R720. -/
  | cbRes4E
  /-- `RES 4,H`, CB A4, R720. -/
  | cbRes4H
  /-- `RES 4,L`, CB A5, R720. -/
  | cbRes4L
  /-- `RES 4,(HL)`, CB A6, R720. -/
  | cbRes4IndHl
  /-- `RES 4,A`, CB A7, R720. -/
  | cbRes4A
  /-- `RES 5,B`, CB A8, R720. -/
  | cbRes5B
  /-- `RES 5,C`, CB A9, R720. -/
  | cbRes5C
  /-- `RES 5,D`, CB AA, R720. -/
  | cbRes5D
  /-- `RES 5,E`, CB AB, R720. -/
  | cbRes5E
  /-- `RES 5,H`, CB AC, R720. -/
  | cbRes5H
  /-- `RES 5,L`, CB AD, R720. -/
  | cbRes5L
  /-- `RES 5,(HL)`, CB AE, R720. -/
  | cbRes5IndHl
  /-- `RES 5,A`, CB AF, R720. -/
  | cbRes5A
  /-- `RES 6,B`, CB B0, R720. -/
  | cbRes6B
  /-- `RES 6,C`, CB B1, R720. -/
  | cbRes6C
  /-- `RES 6,D`, CB B2, R720. -/
  | cbRes6D
  /-- `RES 6,E`, CB B3, R720. -/
  | cbRes6E
  /-- `RES 6,H`, CB B4, R720. -/
  | cbRes6H
  /-- `RES 6,L`, CB B5, R720. -/
  | cbRes6L
  /-- `RES 6,(HL)`, CB B6, R720. -/
  | cbRes6IndHl
  /-- `RES 6,A`, CB B7, R720. -/
  | cbRes6A
  /-- `RES 7,B`, CB B8, R720. -/
  | cbRes7B
  /-- `RES 7,C`, CB B9, R720. -/
  | cbRes7C
  /-- `RES 7,D`, CB BA, R720. -/
  | cbRes7D
  /-- `RES 7,E`, CB BB, R720. -/
  | cbRes7E
  /-- `RES 7,H`, CB BC, R720. -/
  | cbRes7H
  /-- `RES 7,L`, CB BD, R720. -/
  | cbRes7L
  /-- `RES 7,(HL)`, CB BE, R720. -/
  | cbRes7IndHl
  /-- `RES 7,A`, CB BF, R720. -/
  | cbRes7A
  /-- `SET 0,B`, CB C0, R721. -/
  | cbSet0B
  /-- `SET 0,C`, CB C1, R721. -/
  | cbSet0C
  /-- `SET 0,D`, CB C2, R721. -/
  | cbSet0D
  /-- `SET 0,E`, CB C3, R721. -/
  | cbSet0E
  /-- `SET 0,H`, CB C4, R721. -/
  | cbSet0H
  /-- `SET 0,L`, CB C5, R721. -/
  | cbSet0L
  /-- `SET 0,(HL)`, CB C6, R721. -/
  | cbSet0IndHl
  /-- `SET 0,A`, CB C7, R721. -/
  | cbSet0A
  /-- `SET 1,B`, CB C8, R721. -/
  | cbSet1B
  /-- `SET 1,C`, CB C9, R721. -/
  | cbSet1C
  /-- `SET 1,D`, CB CA, R721. -/
  | cbSet1D
  /-- `SET 1,E`, CB CB, R721. -/
  | cbSet1E
  /-- `SET 1,H`, CB CC, R721. -/
  | cbSet1H
  /-- `SET 1,L`, CB CD, R721. -/
  | cbSet1L
  /-- `SET 1,(HL)`, CB CE, R721. -/
  | cbSet1IndHl
  /-- `SET 1,A`, CB CF, R721. -/
  | cbSet1A
  /-- `SET 2,B`, CB D0, R721. -/
  | cbSet2B
  /-- `SET 2,C`, CB D1, R721. -/
  | cbSet2C
  /-- `SET 2,D`, CB D2, R721. -/
  | cbSet2D
  /-- `SET 2,E`, CB D3, R721. -/
  | cbSet2E
  /-- `SET 2,H`, CB D4, R721. -/
  | cbSet2H
  /-- `SET 2,L`, CB D5, R721. -/
  | cbSet2L
  /-- `SET 2,(HL)`, CB D6, R721. -/
  | cbSet2IndHl
  /-- `SET 2,A`, CB D7, R721. -/
  | cbSet2A
  /-- `SET 3,B`, CB D8, R721. -/
  | cbSet3B
  /-- `SET 3,C`, CB D9, R721. -/
  | cbSet3C
  /-- `SET 3,D`, CB DA, R721. -/
  | cbSet3D
  /-- `SET 3,E`, CB DB, R721. -/
  | cbSet3E
  /-- `SET 3,H`, CB DC, R721. -/
  | cbSet3H
  /-- `SET 3,L`, CB DD, R721. -/
  | cbSet3L
  /-- `SET 3,(HL)`, CB DE, R721. -/
  | cbSet3IndHl
  /-- `SET 3,A`, CB DF, R721. -/
  | cbSet3A
  /-- `SET 4,B`, CB E0, R721. -/
  | cbSet4B
  /-- `SET 4,C`, CB E1, R721. -/
  | cbSet4C
  /-- `SET 4,D`, CB E2, R721. -/
  | cbSet4D
  /-- `SET 4,E`, CB E3, R721. -/
  | cbSet4E
  /-- `SET 4,H`, CB E4, R721. -/
  | cbSet4H
  /-- `SET 4,L`, CB E5, R721. -/
  | cbSet4L
  /-- `SET 4,(HL)`, CB E6, R721. -/
  | cbSet4IndHl
  /-- `SET 4,A`, CB E7, R721. -/
  | cbSet4A
  /-- `SET 5,B`, CB E8, R721. -/
  | cbSet5B
  /-- `SET 5,C`, CB E9, R721. -/
  | cbSet5C
  /-- `SET 5,D`, CB EA, R721. -/
  | cbSet5D
  /-- `SET 5,E`, CB EB, R721. -/
  | cbSet5E
  /-- `SET 5,H`, CB EC, R721. -/
  | cbSet5H
  /-- `SET 5,L`, CB ED, R721. -/
  | cbSet5L
  /-- `SET 5,(HL)`, CB EE, R721. -/
  | cbSet5IndHl
  /-- `SET 5,A`, CB EF, R721. -/
  | cbSet5A
  /-- `SET 6,B`, CB F0, R721. -/
  | cbSet6B
  /-- `SET 6,C`, CB F1, R721. -/
  | cbSet6C
  /-- `SET 6,D`, CB F2, R721. -/
  | cbSet6D
  /-- `SET 6,E`, CB F3, R721. -/
  | cbSet6E
  /-- `SET 6,H`, CB F4, R721. -/
  | cbSet6H
  /-- `SET 6,L`, CB F5, R721. -/
  | cbSet6L
  /-- `SET 6,(HL)`, CB F6, R721. -/
  | cbSet6IndHl
  /-- `SET 6,A`, CB F7, R721. -/
  | cbSet6A
  /-- `SET 7,B`, CB F8, R721. -/
  | cbSet7B
  /-- `SET 7,C`, CB F9, R721. -/
  | cbSet7C
  /-- `SET 7,D`, CB FA, R721. -/
  | cbSet7D
  /-- `SET 7,E`, CB FB, R721. -/
  | cbSet7E
  /-- `SET 7,H`, CB FC, R721. -/
  | cbSet7H
  /-- `SET 7,L`, CB FD, R721. -/
  | cbSet7L
  /-- `SET 7,(HL)`, CB FE, R721. -/
  | cbSet7IndHl
  /-- `SET 7,A`, CB FF, R721. -/
  | cbSet7A
deriving DecidableEq, Repr

/-- `LD r,r'` (R401). -/
def Instr.ldRegReg : R8 → R8 → Instr
  | .b, .b => .ldBB
  | .b, .c => .ldBC
  | .b, .d => .ldBD
  | .b, .e => .ldBE
  | .b, .h => .ldBH
  | .b, .l => .ldBL
  | .b, .a => .ldBA
  | .c, .b => .ldCB
  | .c, .c => .ldCC
  | .c, .d => .ldCD
  | .c, .e => .ldCE
  | .c, .h => .ldCH
  | .c, .l => .ldCL
  | .c, .a => .ldCA
  | .d, .b => .ldDB
  | .d, .c => .ldDC
  | .d, .d => .ldDD
  | .d, .e => .ldDE
  | .d, .h => .ldDH
  | .d, .l => .ldDL
  | .d, .a => .ldDA
  | .e, .b => .ldEB
  | .e, .c => .ldEC
  | .e, .d => .ldED
  | .e, .e => .ldEE
  | .e, .h => .ldEH
  | .e, .l => .ldEL
  | .e, .a => .ldEA
  | .h, .b => .ldHB
  | .h, .c => .ldHC
  | .h, .d => .ldHD
  | .h, .e => .ldHE
  | .h, .h => .ldHH
  | .h, .l => .ldHL
  | .h, .a => .ldHA
  | .l, .b => .ldLB
  | .l, .c => .ldLC
  | .l, .d => .ldLD
  | .l, .e => .ldLE
  | .l, .h => .ldLH
  | .l, .l => .ldLL
  | .l, .a => .ldLA
  | .a, .b => .ldAB
  | .a, .c => .ldAC
  | .a, .d => .ldAD
  | .a, .e => .ldAE
  | .a, .h => .ldAH
  | .a, .l => .ldAL
  | .a, .a => .ldAA

/-- `LD r,d8` (R402). -/
def Instr.ldRegD8 : R8 → Byte → Instr
  | .b, n => .ldBD8 n
  | .c, n => .ldCD8 n
  | .d, n => .ldDD8 n
  | .e, n => .ldED8 n
  | .h, n => .ldHD8 n
  | .l, n => .ldLD8 n
  | .a, n => .ldAD8 n

/-- `LD r,(HL)` (R403). -/
def Instr.ldRegHl : R8 → Instr
  | .b => .ldBIndHl
  | .c => .ldCIndHl
  | .d => .ldDIndHl
  | .e => .ldEIndHl
  | .h => .ldHIndHl
  | .l => .ldLIndHl
  | .a => .ldAIndHl

/-- `LD (HL),r` (R404). -/
def Instr.ldHlReg : R8 → Instr
  | .b => .ldIndHlB
  | .c => .ldIndHlC
  | .d => .ldIndHlD
  | .e => .ldIndHlE
  | .h => .ldIndHlH
  | .l => .ldIndHlL
  | .a => .ldIndHlA

/-- `LD rr,d16` (R420). -/
def Instr.ldPairD16 : Rp → Word → Instr
  | .bc, nn => .ldBcD16 nn
  | .de, nn => .ldDeD16 nn
  | .hl, nn => .ldHlD16 nn
  | .sp, nn => .ldSpD16 nn

/-- `PUSH rr` (R423). -/
def Instr.pushPair : Rp2 → Instr
  | .bc => .pushBc
  | .de => .pushDe
  | .hl => .pushHl
  | .af => .pushAf

/-- `POP rr` (R424), `POP AF` (R425). -/
def Instr.popPair : Rp2 → Instr
  | .bc => .popBc
  | .de => .popDe
  | .hl => .popHl
  | .af => .popAf

/-- ALU `A,r` (R510-R517). -/
def Instr.aluReg : Alu → R8 → Instr
  | .add, .b => .addAB
  | .add, .c => .addAC
  | .add, .d => .addAD
  | .add, .e => .addAE
  | .add, .h => .addAH
  | .add, .l => .addAL
  | .add, .a => .addAA
  | .adc, .b => .adcAB
  | .adc, .c => .adcAC
  | .adc, .d => .adcAD
  | .adc, .e => .adcAE
  | .adc, .h => .adcAH
  | .adc, .l => .adcAL
  | .adc, .a => .adcAA
  | .sub, .b => .subB
  | .sub, .c => .subC
  | .sub, .d => .subD
  | .sub, .e => .subE
  | .sub, .h => .subH
  | .sub, .l => .subL
  | .sub, .a => .subA
  | .sbc, .b => .sbcAB
  | .sbc, .c => .sbcAC
  | .sbc, .d => .sbcAD
  | .sbc, .e => .sbcAE
  | .sbc, .h => .sbcAH
  | .sbc, .l => .sbcAL
  | .sbc, .a => .sbcAA
  | .and, .b => .andB
  | .and, .c => .andC
  | .and, .d => .andD
  | .and, .e => .andE
  | .and, .h => .andH
  | .and, .l => .andL
  | .and, .a => .andA
  | .xor, .b => .xorB
  | .xor, .c => .xorC
  | .xor, .d => .xorD
  | .xor, .e => .xorE
  | .xor, .h => .xorH
  | .xor, .l => .xorL
  | .xor, .a => .xorA
  | .or, .b => .orB
  | .or, .c => .orC
  | .or, .d => .orD
  | .or, .e => .orE
  | .or, .h => .orH
  | .or, .l => .orL
  | .or, .a => .orA
  | .cp, .b => .cpB
  | .cp, .c => .cpC
  | .cp, .d => .cpD
  | .cp, .e => .cpE
  | .cp, .h => .cpH
  | .cp, .l => .cpL
  | .cp, .a => .cpA

/-- ALU `A,(HL)` (R510-R517). -/
def Instr.aluHl : Alu → Instr
  | .add => .addAIndHl
  | .adc => .adcAIndHl
  | .sub => .subIndHl
  | .sbc => .sbcAIndHl
  | .and => .andIndHl
  | .xor => .xorIndHl
  | .or => .orIndHl
  | .cp => .cpIndHl

/-- ALU `A,d8` (R510-R517). -/
def Instr.aluD8 : Alu → Byte → Instr
  | .add, n => .addAD8 n
  | .adc, n => .adcAD8 n
  | .sub, n => .subD8 n
  | .sbc, n => .sbcAD8 n
  | .and, n => .andD8 n
  | .xor, n => .xorD8 n
  | .or, n => .orD8 n
  | .cp, n => .cpD8 n

/-- `INC r` (R518). -/
def Instr.incReg : R8 → Instr
  | .b => .incB
  | .c => .incC
  | .d => .incD
  | .e => .incE
  | .h => .incH
  | .l => .incL
  | .a => .incA

/-- `DEC r` (R520). -/
def Instr.decReg : R8 → Instr
  | .b => .decB
  | .c => .decC
  | .d => .decD
  | .e => .decE
  | .h => .decH
  | .l => .decL
  | .a => .decA

/-- `ADD HL,rr` (R601). -/
def Instr.addHlPair : Rp → Instr
  | .bc => .addHlBc
  | .de => .addHlDe
  | .hl => .addHlHl
  | .sp => .addHlSp

/-- `INC rr` (R602). -/
def Instr.incPair : Rp → Instr
  | .bc => .incBc
  | .de => .incDe
  | .hl => .incHl
  | .sp => .incSp

/-- `DEC rr` (R603). -/
def Instr.decPair : Rp → Instr
  | .bc => .decBc
  | .de => .decDe
  | .hl => .decHl
  | .sp => .decSp

/-- CB rotates and shifts of a register (R711-R718). -/
def Instr.rotReg : Rot → R8 → Instr
  | .rlc, .b => .cbRlcB
  | .rlc, .c => .cbRlcC
  | .rlc, .d => .cbRlcD
  | .rlc, .e => .cbRlcE
  | .rlc, .h => .cbRlcH
  | .rlc, .l => .cbRlcL
  | .rlc, .a => .cbRlcA
  | .rrc, .b => .cbRrcB
  | .rrc, .c => .cbRrcC
  | .rrc, .d => .cbRrcD
  | .rrc, .e => .cbRrcE
  | .rrc, .h => .cbRrcH
  | .rrc, .l => .cbRrcL
  | .rrc, .a => .cbRrcA
  | .rl, .b => .cbRlB
  | .rl, .c => .cbRlC
  | .rl, .d => .cbRlD
  | .rl, .e => .cbRlE
  | .rl, .h => .cbRlH
  | .rl, .l => .cbRlL
  | .rl, .a => .cbRlA
  | .rr, .b => .cbRrB
  | .rr, .c => .cbRrC
  | .rr, .d => .cbRrD
  | .rr, .e => .cbRrE
  | .rr, .h => .cbRrH
  | .rr, .l => .cbRrL
  | .rr, .a => .cbRrA
  | .sla, .b => .cbSlaB
  | .sla, .c => .cbSlaC
  | .sla, .d => .cbSlaD
  | .sla, .e => .cbSlaE
  | .sla, .h => .cbSlaH
  | .sla, .l => .cbSlaL
  | .sla, .a => .cbSlaA
  | .sra, .b => .cbSraB
  | .sra, .c => .cbSraC
  | .sra, .d => .cbSraD
  | .sra, .e => .cbSraE
  | .sra, .h => .cbSraH
  | .sra, .l => .cbSraL
  | .sra, .a => .cbSraA
  | .swap, .b => .cbSwapB
  | .swap, .c => .cbSwapC
  | .swap, .d => .cbSwapD
  | .swap, .e => .cbSwapE
  | .swap, .h => .cbSwapH
  | .swap, .l => .cbSwapL
  | .swap, .a => .cbSwapA
  | .srl, .b => .cbSrlB
  | .srl, .c => .cbSrlC
  | .srl, .d => .cbSrlD
  | .srl, .e => .cbSrlE
  | .srl, .h => .cbSrlH
  | .srl, .l => .cbSrlL
  | .srl, .a => .cbSrlA

/-- CB rotates and shifts of `(HL)` (R711-R718). -/
def Instr.rotHl : Rot → Instr
  | .rlc => .cbRlcIndHl
  | .rrc => .cbRrcIndHl
  | .rl => .cbRlIndHl
  | .rr => .cbRrIndHl
  | .sla => .cbSlaIndHl
  | .sra => .cbSraIndHl
  | .swap => .cbSwapIndHl
  | .srl => .cbSrlIndHl

/-- `BIT b,r` (R719). -/
def Instr.bitReg : Oct → R8 → Instr
  | .o0, .b => .cbBit0B
  | .o0, .c => .cbBit0C
  | .o0, .d => .cbBit0D
  | .o0, .e => .cbBit0E
  | .o0, .h => .cbBit0H
  | .o0, .l => .cbBit0L
  | .o0, .a => .cbBit0A
  | .o1, .b => .cbBit1B
  | .o1, .c => .cbBit1C
  | .o1, .d => .cbBit1D
  | .o1, .e => .cbBit1E
  | .o1, .h => .cbBit1H
  | .o1, .l => .cbBit1L
  | .o1, .a => .cbBit1A
  | .o2, .b => .cbBit2B
  | .o2, .c => .cbBit2C
  | .o2, .d => .cbBit2D
  | .o2, .e => .cbBit2E
  | .o2, .h => .cbBit2H
  | .o2, .l => .cbBit2L
  | .o2, .a => .cbBit2A
  | .o3, .b => .cbBit3B
  | .o3, .c => .cbBit3C
  | .o3, .d => .cbBit3D
  | .o3, .e => .cbBit3E
  | .o3, .h => .cbBit3H
  | .o3, .l => .cbBit3L
  | .o3, .a => .cbBit3A
  | .o4, .b => .cbBit4B
  | .o4, .c => .cbBit4C
  | .o4, .d => .cbBit4D
  | .o4, .e => .cbBit4E
  | .o4, .h => .cbBit4H
  | .o4, .l => .cbBit4L
  | .o4, .a => .cbBit4A
  | .o5, .b => .cbBit5B
  | .o5, .c => .cbBit5C
  | .o5, .d => .cbBit5D
  | .o5, .e => .cbBit5E
  | .o5, .h => .cbBit5H
  | .o5, .l => .cbBit5L
  | .o5, .a => .cbBit5A
  | .o6, .b => .cbBit6B
  | .o6, .c => .cbBit6C
  | .o6, .d => .cbBit6D
  | .o6, .e => .cbBit6E
  | .o6, .h => .cbBit6H
  | .o6, .l => .cbBit6L
  | .o6, .a => .cbBit6A
  | .o7, .b => .cbBit7B
  | .o7, .c => .cbBit7C
  | .o7, .d => .cbBit7D
  | .o7, .e => .cbBit7E
  | .o7, .h => .cbBit7H
  | .o7, .l => .cbBit7L
  | .o7, .a => .cbBit7A

/-- `BIT b,(HL)` (R719). -/
def Instr.bitHl : Oct → Instr
  | .o0 => .cbBit0IndHl
  | .o1 => .cbBit1IndHl
  | .o2 => .cbBit2IndHl
  | .o3 => .cbBit3IndHl
  | .o4 => .cbBit4IndHl
  | .o5 => .cbBit5IndHl
  | .o6 => .cbBit6IndHl
  | .o7 => .cbBit7IndHl

/-- `RES b,r` (R720). -/
def Instr.resReg : Oct → R8 → Instr
  | .o0, .b => .cbRes0B
  | .o0, .c => .cbRes0C
  | .o0, .d => .cbRes0D
  | .o0, .e => .cbRes0E
  | .o0, .h => .cbRes0H
  | .o0, .l => .cbRes0L
  | .o0, .a => .cbRes0A
  | .o1, .b => .cbRes1B
  | .o1, .c => .cbRes1C
  | .o1, .d => .cbRes1D
  | .o1, .e => .cbRes1E
  | .o1, .h => .cbRes1H
  | .o1, .l => .cbRes1L
  | .o1, .a => .cbRes1A
  | .o2, .b => .cbRes2B
  | .o2, .c => .cbRes2C
  | .o2, .d => .cbRes2D
  | .o2, .e => .cbRes2E
  | .o2, .h => .cbRes2H
  | .o2, .l => .cbRes2L
  | .o2, .a => .cbRes2A
  | .o3, .b => .cbRes3B
  | .o3, .c => .cbRes3C
  | .o3, .d => .cbRes3D
  | .o3, .e => .cbRes3E
  | .o3, .h => .cbRes3H
  | .o3, .l => .cbRes3L
  | .o3, .a => .cbRes3A
  | .o4, .b => .cbRes4B
  | .o4, .c => .cbRes4C
  | .o4, .d => .cbRes4D
  | .o4, .e => .cbRes4E
  | .o4, .h => .cbRes4H
  | .o4, .l => .cbRes4L
  | .o4, .a => .cbRes4A
  | .o5, .b => .cbRes5B
  | .o5, .c => .cbRes5C
  | .o5, .d => .cbRes5D
  | .o5, .e => .cbRes5E
  | .o5, .h => .cbRes5H
  | .o5, .l => .cbRes5L
  | .o5, .a => .cbRes5A
  | .o6, .b => .cbRes6B
  | .o6, .c => .cbRes6C
  | .o6, .d => .cbRes6D
  | .o6, .e => .cbRes6E
  | .o6, .h => .cbRes6H
  | .o6, .l => .cbRes6L
  | .o6, .a => .cbRes6A
  | .o7, .b => .cbRes7B
  | .o7, .c => .cbRes7C
  | .o7, .d => .cbRes7D
  | .o7, .e => .cbRes7E
  | .o7, .h => .cbRes7H
  | .o7, .l => .cbRes7L
  | .o7, .a => .cbRes7A

/-- `RES b,(HL)` (R720). -/
def Instr.resHl : Oct → Instr
  | .o0 => .cbRes0IndHl
  | .o1 => .cbRes1IndHl
  | .o2 => .cbRes2IndHl
  | .o3 => .cbRes3IndHl
  | .o4 => .cbRes4IndHl
  | .o5 => .cbRes5IndHl
  | .o6 => .cbRes6IndHl
  | .o7 => .cbRes7IndHl

/-- `SET b,r` (R721). -/
def Instr.setReg : Oct → R8 → Instr
  | .o0, .b => .cbSet0B
  | .o0, .c => .cbSet0C
  | .o0, .d => .cbSet0D
  | .o0, .e => .cbSet0E
  | .o0, .h => .cbSet0H
  | .o0, .l => .cbSet0L
  | .o0, .a => .cbSet0A
  | .o1, .b => .cbSet1B
  | .o1, .c => .cbSet1C
  | .o1, .d => .cbSet1D
  | .o1, .e => .cbSet1E
  | .o1, .h => .cbSet1H
  | .o1, .l => .cbSet1L
  | .o1, .a => .cbSet1A
  | .o2, .b => .cbSet2B
  | .o2, .c => .cbSet2C
  | .o2, .d => .cbSet2D
  | .o2, .e => .cbSet2E
  | .o2, .h => .cbSet2H
  | .o2, .l => .cbSet2L
  | .o2, .a => .cbSet2A
  | .o3, .b => .cbSet3B
  | .o3, .c => .cbSet3C
  | .o3, .d => .cbSet3D
  | .o3, .e => .cbSet3E
  | .o3, .h => .cbSet3H
  | .o3, .l => .cbSet3L
  | .o3, .a => .cbSet3A
  | .o4, .b => .cbSet4B
  | .o4, .c => .cbSet4C
  | .o4, .d => .cbSet4D
  | .o4, .e => .cbSet4E
  | .o4, .h => .cbSet4H
  | .o4, .l => .cbSet4L
  | .o4, .a => .cbSet4A
  | .o5, .b => .cbSet5B
  | .o5, .c => .cbSet5C
  | .o5, .d => .cbSet5D
  | .o5, .e => .cbSet5E
  | .o5, .h => .cbSet5H
  | .o5, .l => .cbSet5L
  | .o5, .a => .cbSet5A
  | .o6, .b => .cbSet6B
  | .o6, .c => .cbSet6C
  | .o6, .d => .cbSet6D
  | .o6, .e => .cbSet6E
  | .o6, .h => .cbSet6H
  | .o6, .l => .cbSet6L
  | .o6, .a => .cbSet6A
  | .o7, .b => .cbSet7B
  | .o7, .c => .cbSet7C
  | .o7, .d => .cbSet7D
  | .o7, .e => .cbSet7E
  | .o7, .h => .cbSet7H
  | .o7, .l => .cbSet7L
  | .o7, .a => .cbSet7A

/-- `SET b,(HL)` (R721). -/
def Instr.setHl : Oct → Instr
  | .o0 => .cbSet0IndHl
  | .o1 => .cbSet1IndHl
  | .o2 => .cbSet2IndHl
  | .o3 => .cbSet3IndHl
  | .o4 => .cbSet4IndHl
  | .o5 => .cbSet5IndHl
  | .o6 => .cbSet6IndHl
  | .o7 => .cbSet7IndHl

/-- `JP cc,nn` (R802). -/
def Instr.jpCond : Cond → Word → Instr
  | .nz, nn => .jpNzA16 nn
  | .z, nn => .jpZA16 nn
  | .nc, nn => .jpNcA16 nn
  | .c, nn => .jpCA16 nn

/-- `JR cc,e` (R805). -/
def Instr.jrCond : Cond → Byte → Instr
  | .nz, e => .jrNzE8 e
  | .z, e => .jrZE8 e
  | .nc, e => .jrNcE8 e
  | .c, e => .jrCE8 e

/-- `CALL cc,nn` (R807). -/
def Instr.callCond : Cond → Word → Instr
  | .nz, nn => .callNzA16 nn
  | .z, nn => .callZA16 nn
  | .nc, nn => .callNcA16 nn
  | .c, nn => .callCA16 nn

/-- `RET cc` (R809). -/
def Instr.retCond : Cond → Instr
  | .nz => .retNz
  | .z => .retZ
  | .nc => .retNc
  | .c => .retC

/-- `RST t` with t = 8 · y (R811). -/
def Instr.rst : Oct → Instr
  | .o0 => .rst00
  | .o1 => .rst08
  | .o2 => .rst10
  | .o3 => .rst18
  | .o4 => .rst20
  | .o5 => .rst28
  | .o6 => .rst30
  | .o7 => .rst38

/-- The illegal opcodes (R905). -/
def Instr.illegal : Illegal → Instr
  | .xD3 => .illegalD3
  | .xDB => .illegalDB
  | .xDD => .illegalDD
  | .xE3 => .illegalE3
  | .xE4 => .illegalE4
  | .xEB => .illegalEB
  | .xEC => .illegalEC
  | .xED => .illegalED
  | .xF4 => .illegalF4
  | .xFC => .illegalFC
  | .xFD => .illegalFD

end Sys2Proof
end

