-- ==== Sys2Proof/Decode.lean ====
section
/-! DEFINITION. Decoding (30_encoding.md R300-R342) and, after it, encoding. The byte-order and sign-extension helpers stand here too. -/

namespace Sys2Proof

/-- `hi(w)` = w[15:8] (00_scope.md R9). -/
def hi (w : Word) : Byte := w.extractLsb' 8 8

/-- `lo(w)` = w[7:0] (R9). -/
def lo (w : Word) : Byte := w.extractLsb' 0 8

/-- `cat(h, l)` = h · 256 + l (R9). -/
def cat (h l : Byte) : Word := h ++ l

/-- `sext_16(v)` (R9). -/
def sext16 (v : Byte) : Word := v.signExtend 16

/-- `zext_16(v)` (R9). -/
def zext16 (v : Byte) : Word := v.zeroExtend 16

/-- The high-page address `0xFF00 + n` of `a8` and of `(C)` (R320, R321). -/
def highPage (n : Byte) : Word := 0xFF00#16 + zext16 n

/-! The field codes of R310-R317. -/

/-- The code of `r8` (R310); code 6 names `(HL)`. -/
def R8.code : R8 → BitVec 3
  | .b => 0 | .c => 1 | .d => 2 | .e => 3 | .h => 4 | .l => 5 | .a => 7

/-- The code of `rp` (R311). -/
def Rp.code : Rp → BitVec 2
  | .bc => 0 | .de => 1 | .hl => 2 | .sp => 3

/-- The code of `rp2` (R312). -/
def Rp2.code : Rp2 → BitVec 2
  | .bc => 0 | .de => 1 | .hl => 2 | .af => 3

/-- The code of `cc` (R313). -/
def Cond.code : Cond → BitVec 2
  | .nz => 0 | .z => 1 | .nc => 2 | .c => 3

/-- The code of an ALU operation (R314). -/
def Alu.code : Alu → BitVec 3
  | .add => 0 | .adc => 1 | .sub => 2 | .sbc => 3 | .and => 4 | .xor => 5 | .or => 6 | .cp => 7

/-- The code of a CB rotate or shift (R315). -/
def Rot.code : Rot → BitVec 3
  | .rlc => 0 | .rrc => 1 | .rl => 2 | .rr => 3 | .sla => 4 | .sra => 5 | .swap => 6 | .srl => 7

/-- The code of a bit index or an RST number (R316, R317). -/
def Oct.code (n : Oct) : BitVec 3 := BitVec.ofNat 3 n.toNat

/-- The opcodes of three-byte instructions (R303). -/
def Decode.threeByte : List Byte :=
  [0x01, 0x08, 0x11, 0x21, 0x31, 0xC2, 0xC3, 0xC4, 0xCA, 0xCC, 0xCD, 0xD2, 0xD4, 0xDA, 0xDC, 0xEA, 0xFA]

/-- The opcodes of two-byte instructions: the prefix 0xCB, STOP, and the opcodes with an 8-bit immediate (R303). -/
def Decode.twoByte : List Byte :=
  [0xCB, 0x10] ++
  [0x06, 0x0E, 0x16, 0x18, 0x1E, 0x20, 0x26, 0x28, 0x2E, 0x30, 0x36, 0x38, 0x3E] ++
  [0xC6, 0xCE, 0xD6, 0xDE, 0xE0, 0xE6, 0xE8, 0xEE, 0xF0, 0xF6, 0xF8, 0xFE]

/-- The length in bytes, a function of the first byte alone (R302, R303). An illegal opcode faults at its byte: 1. -/
def instrLength (op : Byte) : Nat :=
  if op ∈ Decode.threeByte then 3 else if op ∈ Decode.twoByte then 2 else 1

/-! The CB page, R331: row = high nibble of the second byte, column = low nibble. -/

/-- CB page, second bytes 0x00-0x0F (R331). -/
def Decode.cbRow0 : List Instr :=
  [.cbRlcB, .cbRlcC, .cbRlcD, .cbRlcE, .cbRlcH, .cbRlcL, .cbRlcIndHl, .cbRlcA,
   .cbRrcB, .cbRrcC, .cbRrcD, .cbRrcE, .cbRrcH, .cbRrcL, .cbRrcIndHl, .cbRrcA]

/-- CB page, second bytes 0x10-0x1F (R331). -/
def Decode.cbRow1 : List Instr :=
  [.cbRlB, .cbRlC, .cbRlD, .cbRlE, .cbRlH, .cbRlL, .cbRlIndHl, .cbRlA,
   .cbRrB, .cbRrC, .cbRrD, .cbRrE, .cbRrH, .cbRrL, .cbRrIndHl, .cbRrA]

/-- CB page, second bytes 0x20-0x2F (R331). -/
def Decode.cbRow2 : List Instr :=
  [.cbSlaB, .cbSlaC, .cbSlaD, .cbSlaE, .cbSlaH, .cbSlaL, .cbSlaIndHl, .cbSlaA,
   .cbSraB, .cbSraC, .cbSraD, .cbSraE, .cbSraH, .cbSraL, .cbSraIndHl, .cbSraA]

/-- CB page, second bytes 0x30-0x3F (R331). -/
def Decode.cbRow3 : List Instr :=
  [.cbSwapB, .cbSwapC, .cbSwapD, .cbSwapE, .cbSwapH, .cbSwapL, .cbSwapIndHl, .cbSwapA,
   .cbSrlB, .cbSrlC, .cbSrlD, .cbSrlE, .cbSrlH, .cbSrlL, .cbSrlIndHl, .cbSrlA]

/-- CB page, second bytes 0x40-0x4F (R331). -/
def Decode.cbRow4 : List Instr :=
  [.cbBit0B, .cbBit0C, .cbBit0D, .cbBit0E, .cbBit0H, .cbBit0L, .cbBit0IndHl, .cbBit0A,
   .cbBit1B, .cbBit1C, .cbBit1D, .cbBit1E, .cbBit1H, .cbBit1L, .cbBit1IndHl, .cbBit1A]

/-- CB page, second bytes 0x50-0x5F (R331). -/
def Decode.cbRow5 : List Instr :=
  [.cbBit2B, .cbBit2C, .cbBit2D, .cbBit2E, .cbBit2H, .cbBit2L, .cbBit2IndHl, .cbBit2A,
   .cbBit3B, .cbBit3C, .cbBit3D, .cbBit3E, .cbBit3H, .cbBit3L, .cbBit3IndHl, .cbBit3A]

/-- CB page, second bytes 0x60-0x6F (R331). -/
def Decode.cbRow6 : List Instr :=
  [.cbBit4B, .cbBit4C, .cbBit4D, .cbBit4E, .cbBit4H, .cbBit4L, .cbBit4IndHl, .cbBit4A,
   .cbBit5B, .cbBit5C, .cbBit5D, .cbBit5E, .cbBit5H, .cbBit5L, .cbBit5IndHl, .cbBit5A]

/-- CB page, second bytes 0x70-0x7F (R331). -/
def Decode.cbRow7 : List Instr :=
  [.cbBit6B, .cbBit6C, .cbBit6D, .cbBit6E, .cbBit6H, .cbBit6L, .cbBit6IndHl, .cbBit6A,
   .cbBit7B, .cbBit7C, .cbBit7D, .cbBit7E, .cbBit7H, .cbBit7L, .cbBit7IndHl, .cbBit7A]

/-- CB page, second bytes 0x80-0x8F (R331). -/
def Decode.cbRow8 : List Instr :=
  [.cbRes0B, .cbRes0C, .cbRes0D, .cbRes0E, .cbRes0H, .cbRes0L, .cbRes0IndHl, .cbRes0A,
   .cbRes1B, .cbRes1C, .cbRes1D, .cbRes1E, .cbRes1H, .cbRes1L, .cbRes1IndHl, .cbRes1A]

/-- CB page, second bytes 0x90-0x9F (R331). -/
def Decode.cbRow9 : List Instr :=
  [.cbRes2B, .cbRes2C, .cbRes2D, .cbRes2E, .cbRes2H, .cbRes2L, .cbRes2IndHl, .cbRes2A,
   .cbRes3B, .cbRes3C, .cbRes3D, .cbRes3E, .cbRes3H, .cbRes3L, .cbRes3IndHl, .cbRes3A]

/-- CB page, second bytes 0xA0-0xAF (R331). -/
def Decode.cbRowA : List Instr :=
  [.cbRes4B, .cbRes4C, .cbRes4D, .cbRes4E, .cbRes4H, .cbRes4L, .cbRes4IndHl, .cbRes4A,
   .cbRes5B, .cbRes5C, .cbRes5D, .cbRes5E, .cbRes5H, .cbRes5L, .cbRes5IndHl, .cbRes5A]

/-- CB page, second bytes 0xB0-0xBF (R331). -/
def Decode.cbRowB : List Instr :=
  [.cbRes6B, .cbRes6C, .cbRes6D, .cbRes6E, .cbRes6H, .cbRes6L, .cbRes6IndHl, .cbRes6A,
   .cbRes7B, .cbRes7C, .cbRes7D, .cbRes7E, .cbRes7H, .cbRes7L, .cbRes7IndHl, .cbRes7A]

/-- CB page, second bytes 0xC0-0xCF (R331). -/
def Decode.cbRowC : List Instr :=
  [.cbSet0B, .cbSet0C, .cbSet0D, .cbSet0E, .cbSet0H, .cbSet0L, .cbSet0IndHl, .cbSet0A,
   .cbSet1B, .cbSet1C, .cbSet1D, .cbSet1E, .cbSet1H, .cbSet1L, .cbSet1IndHl, .cbSet1A]

/-- CB page, second bytes 0xD0-0xDF (R331). -/
def Decode.cbRowD : List Instr :=
  [.cbSet2B, .cbSet2C, .cbSet2D, .cbSet2E, .cbSet2H, .cbSet2L, .cbSet2IndHl, .cbSet2A,
   .cbSet3B, .cbSet3C, .cbSet3D, .cbSet3E, .cbSet3H, .cbSet3L, .cbSet3IndHl, .cbSet3A]

/-- CB page, second bytes 0xE0-0xEF (R331). -/
def Decode.cbRowE : List Instr :=
  [.cbSet4B, .cbSet4C, .cbSet4D, .cbSet4E, .cbSet4H, .cbSet4L, .cbSet4IndHl, .cbSet4A,
   .cbSet5B, .cbSet5C, .cbSet5D, .cbSet5E, .cbSet5H, .cbSet5L, .cbSet5IndHl, .cbSet5A]

/-- CB page, second bytes 0xF0-0xFF (R331). -/
def Decode.cbRowF : List Instr :=
  [.cbSet6B, .cbSet6C, .cbSet6D, .cbSet6E, .cbSet6H, .cbSet6L, .cbSet6IndHl, .cbSet6A,
   .cbSet7B, .cbSet7C, .cbSet7D, .cbSet7E, .cbSet7H, .cbSet7L, .cbSet7IndHl, .cbSet7A]

/-- The CB page of R331. -/
def Decode.cbPage : List (List Instr) :=
  [Decode.cbRow0, Decode.cbRow1, Decode.cbRow2, Decode.cbRow3, Decode.cbRow4, Decode.cbRow5, Decode.cbRow6, Decode.cbRow7,
   Decode.cbRow8, Decode.cbRow9, Decode.cbRowA, Decode.cbRowB, Decode.cbRowC, Decode.cbRowD, Decode.cbRowE, Decode.cbRowF]

/-- The instruction of a second byte after 0xCB; every second byte is one (R331, R341). The default stands for no byte. -/
def decodeCb (op2 : Byte) : Instr :=
  (Decode.cbPage.getD (op2.toNat / 16) []).getD (op2.toNat % 16) .nop

/-! The base page, R330: row = high nibble, column = low nibble; each entry takes the second and third byte. -/

/-- An entry without an immediate. -/
def Decode.op (i : Instr) : Byte → Byte → Instr := fun _ _ => i

/-- An entry with an 8-bit immediate, byte 2 (R320). -/
def Decode.imm8 (f : Byte → Instr) : Byte → Byte → Instr := fun b _ => f b

/-- An entry with a 16-bit immediate, low byte first (R320, 20_memory.md R220). -/
def Decode.imm16 (f : Word → Instr) : Byte → Byte → Instr := fun l h => f (cat h l)

/-- Base page, opcodes 0x00-0x0F (R330). -/
def Decode.baseRow0 : List (Byte → Byte → Instr) :=
  [Decode.op .nop, Decode.imm16 .ldBcD16, Decode.op .ldIndBcA, Decode.op .incBc,
   Decode.op .incB, Decode.op .decB, Decode.imm8 .ldBD8, Decode.op .rlca,
   Decode.imm16 .ldIndA16Sp, Decode.op .addHlBc, Decode.op .ldAIndBc, Decode.op .decBc,
   Decode.op .incC, Decode.op .decC, Decode.imm8 .ldCD8, Decode.op .rrca]

/-- Base page, opcodes 0x10-0x1F (R330). -/
def Decode.baseRow1 : List (Byte → Byte → Instr) :=
  [Decode.imm8 .stop, Decode.imm16 .ldDeD16, Decode.op .ldIndDeA, Decode.op .incDe,
   Decode.op .incD, Decode.op .decD, Decode.imm8 .ldDD8, Decode.op .rla,
   Decode.imm8 .jrE8, Decode.op .addHlDe, Decode.op .ldAIndDe, Decode.op .decDe,
   Decode.op .incE, Decode.op .decE, Decode.imm8 .ldED8, Decode.op .rra]

/-- Base page, opcodes 0x20-0x2F (R330). -/
def Decode.baseRow2 : List (Byte → Byte → Instr) :=
  [Decode.imm8 .jrNzE8, Decode.imm16 .ldHlD16, Decode.op .ldIndHliA, Decode.op .incHl,
   Decode.op .incH, Decode.op .decH, Decode.imm8 .ldHD8, Decode.op .daa,
   Decode.imm8 .jrZE8, Decode.op .addHlHl, Decode.op .ldAIndHli, Decode.op .decHl,
   Decode.op .incL, Decode.op .decL, Decode.imm8 .ldLD8, Decode.op .cplA]

/-- Base page, opcodes 0x30-0x3F (R330). -/
def Decode.baseRow3 : List (Byte → Byte → Instr) :=
  [Decode.imm8 .jrNcE8, Decode.imm16 .ldSpD16, Decode.op .ldIndHldA, Decode.op .incSp,
   Decode.op .incIndHl, Decode.op .decIndHl, Decode.imm8 .ldIndHlD8, Decode.op .scf,
   Decode.imm8 .jrCE8, Decode.op .addHlSp, Decode.op .ldAIndHld, Decode.op .decSp,
   Decode.op .incA, Decode.op .decA, Decode.imm8 .ldAD8, Decode.op .ccf]

/-- Base page, opcodes 0x40-0x4F (R330). -/
def Decode.baseRow4 : List (Byte → Byte → Instr) :=
  [Decode.op .ldBB, Decode.op .ldBC, Decode.op .ldBD, Decode.op .ldBE,
   Decode.op .ldBH, Decode.op .ldBL, Decode.op .ldBIndHl, Decode.op .ldBA,
   Decode.op .ldCB, Decode.op .ldCC, Decode.op .ldCD, Decode.op .ldCE,
   Decode.op .ldCH, Decode.op .ldCL, Decode.op .ldCIndHl, Decode.op .ldCA]

/-- Base page, opcodes 0x50-0x5F (R330). -/
def Decode.baseRow5 : List (Byte → Byte → Instr) :=
  [Decode.op .ldDB, Decode.op .ldDC, Decode.op .ldDD, Decode.op .ldDE,
   Decode.op .ldDH, Decode.op .ldDL, Decode.op .ldDIndHl, Decode.op .ldDA,
   Decode.op .ldEB, Decode.op .ldEC, Decode.op .ldED, Decode.op .ldEE,
   Decode.op .ldEH, Decode.op .ldEL, Decode.op .ldEIndHl, Decode.op .ldEA]

/-- Base page, opcodes 0x60-0x6F (R330). -/
def Decode.baseRow6 : List (Byte → Byte → Instr) :=
  [Decode.op .ldHB, Decode.op .ldHC, Decode.op .ldHD, Decode.op .ldHE,
   Decode.op .ldHH, Decode.op .ldHL, Decode.op .ldHIndHl, Decode.op .ldHA,
   Decode.op .ldLB, Decode.op .ldLC, Decode.op .ldLD, Decode.op .ldLE,
   Decode.op .ldLH, Decode.op .ldLL, Decode.op .ldLIndHl, Decode.op .ldLA]

/-- Base page, opcodes 0x70-0x7F (R330). -/
def Decode.baseRow7 : List (Byte → Byte → Instr) :=
  [Decode.op .ldIndHlB, Decode.op .ldIndHlC, Decode.op .ldIndHlD, Decode.op .ldIndHlE,
   Decode.op .ldIndHlH, Decode.op .ldIndHlL, Decode.op .halt, Decode.op .ldIndHlA,
   Decode.op .ldAB, Decode.op .ldAC, Decode.op .ldAD, Decode.op .ldAE,
   Decode.op .ldAH, Decode.op .ldAL, Decode.op .ldAIndHl, Decode.op .ldAA]

/-- Base page, opcodes 0x80-0x8F (R330). -/
def Decode.baseRow8 : List (Byte → Byte → Instr) :=
  [Decode.op .addAB, Decode.op .addAC, Decode.op .addAD, Decode.op .addAE,
   Decode.op .addAH, Decode.op .addAL, Decode.op .addAIndHl, Decode.op .addAA,
   Decode.op .adcAB, Decode.op .adcAC, Decode.op .adcAD, Decode.op .adcAE,
   Decode.op .adcAH, Decode.op .adcAL, Decode.op .adcAIndHl, Decode.op .adcAA]

/-- Base page, opcodes 0x90-0x9F (R330). -/
def Decode.baseRow9 : List (Byte → Byte → Instr) :=
  [Decode.op .subB, Decode.op .subC, Decode.op .subD, Decode.op .subE,
   Decode.op .subH, Decode.op .subL, Decode.op .subIndHl, Decode.op .subA,
   Decode.op .sbcAB, Decode.op .sbcAC, Decode.op .sbcAD, Decode.op .sbcAE,
   Decode.op .sbcAH, Decode.op .sbcAL, Decode.op .sbcAIndHl, Decode.op .sbcAA]

/-- Base page, opcodes 0xA0-0xAF (R330). -/
def Decode.baseRowA : List (Byte → Byte → Instr) :=
  [Decode.op .andB, Decode.op .andC, Decode.op .andD, Decode.op .andE,
   Decode.op .andH, Decode.op .andL, Decode.op .andIndHl, Decode.op .andA,
   Decode.op .xorB, Decode.op .xorC, Decode.op .xorD, Decode.op .xorE,
   Decode.op .xorH, Decode.op .xorL, Decode.op .xorIndHl, Decode.op .xorA]

/-- Base page, opcodes 0xB0-0xBF (R330). -/
def Decode.baseRowB : List (Byte → Byte → Instr) :=
  [Decode.op .orB, Decode.op .orC, Decode.op .orD, Decode.op .orE,
   Decode.op .orH, Decode.op .orL, Decode.op .orIndHl, Decode.op .orA,
   Decode.op .cpB, Decode.op .cpC, Decode.op .cpD, Decode.op .cpE,
   Decode.op .cpH, Decode.op .cpL, Decode.op .cpIndHl, Decode.op .cpA]

/-- Base page, opcodes 0xC0-0xCF (R330). -/
def Decode.baseRowC : List (Byte → Byte → Instr) :=
  [Decode.op .retNz, Decode.op .popBc, Decode.imm16 .jpNzA16, Decode.imm16 .jpA16,
   Decode.imm16 .callNzA16, Decode.op .pushBc, Decode.imm8 .addAD8, Decode.op .rst00,
   Decode.op .retZ, Decode.op .ret, Decode.imm16 .jpZA16, Decode.imm8 decodeCb,
   Decode.imm16 .callZA16, Decode.imm16 .callA16, Decode.imm8 .adcAD8, Decode.op .rst08]

/-- Base page, opcodes 0xD0-0xDF (R330). -/
def Decode.baseRowD : List (Byte → Byte → Instr) :=
  [Decode.op .retNc, Decode.op .popDe, Decode.imm16 .jpNcA16, Decode.op .illegalD3,
   Decode.imm16 .callNcA16, Decode.op .pushDe, Decode.imm8 .subD8, Decode.op .rst10,
   Decode.op .retC, Decode.op .reti, Decode.imm16 .jpCA16, Decode.op .illegalDB,
   Decode.imm16 .callCA16, Decode.op .illegalDD, Decode.imm8 .sbcAD8, Decode.op .rst18]

/-- Base page, opcodes 0xE0-0xEF (R330). -/
def Decode.baseRowE : List (Byte → Byte → Instr) :=
  [Decode.imm8 .ldhIndA8A, Decode.op .popHl, Decode.op .ldhIndCA, Decode.op .illegalE3,
   Decode.op .illegalE4, Decode.op .pushHl, Decode.imm8 .andD8, Decode.op .rst20,
   Decode.imm8 .addSpE8, Decode.op .jpHl, Decode.imm16 .ldIndA16A, Decode.op .illegalEB,
   Decode.op .illegalEC, Decode.op .illegalED, Decode.imm8 .xorD8, Decode.op .rst28]

/-- Base page, opcodes 0xF0-0xFF (R330). -/
def Decode.baseRowF : List (Byte → Byte → Instr) :=
  [Decode.imm8 .ldhAIndA8, Decode.op .popAf, Decode.op .ldhAIndC, Decode.op .di,
   Decode.op .illegalF4, Decode.op .pushAf, Decode.imm8 .orD8, Decode.op .rst30,
   Decode.imm8 .ldHlSpE8, Decode.op .ldSpHl, Decode.imm16 .ldAIndA16, Decode.op .ei,
   Decode.op .illegalFC, Decode.op .illegalFD, Decode.imm8 .cpD8, Decode.op .rst38]

/-- The base page of R330. -/
def Decode.basePage : List (List (Byte → Byte → Instr)) :=
  [Decode.baseRow0, Decode.baseRow1, Decode.baseRow2, Decode.baseRow3, Decode.baseRow4, Decode.baseRow5, Decode.baseRow6, Decode.baseRow7,
   Decode.baseRow8, Decode.baseRow9, Decode.baseRowA, Decode.baseRowB, Decode.baseRowC, Decode.baseRowD, Decode.baseRowE, Decode.baseRowF]

/-- The instruction of the opcode `op` whose second and third bytes are `b1` and `b2` (R301, R330). Bytes past the
instruction's length are not looked at. Every byte has an entry, the illegal opcodes their own (R340). -/
def decodeFetched (op b1 b2 : Byte) : Instr :=
  (Decode.basePage.getD (op.toNat / 16) []).getD (op.toNat % 16) (Decode.op .nop) b1 b2

/-- Why a byte list is no instruction: the only reason is that it ends too early (R303, R341). -/
inductive DecodeReject where
  /-- There is no opcode byte. -/
  | noOpcode
  /-- The list ends inside the instruction that `op` begins. -/
  | truncated (op : Byte)
deriving DecidableEq, Repr

/-- The instruction at the head of a byte list, and the bytes after it. -/
def decode : List Byte → Except DecodeReject (Instr × List Byte)
  | [] => .error .noOpcode
  | op :: rest =>
    if instrLength op = 1 then .ok (decodeFetched op 0 0, rest)
    else
      match rest with
      | [] => .error (.truncated op)
      | b1 :: rest1 =>
        if instrLength op = 2 then .ok (decodeFetched op b1 0, rest1)
        else
          match rest1 with
          | [] => .error (.truncated op)
          | b2 :: rest2 => .ok (decodeFetched op b1 b2, rest2)

/-- The bytes, at rising addresses, of the instruction whose bits are `w` as spec/opcode_table.json numbers them, padded
with zeros to the longest instruction. The table reads a CB row as one number 0xCBxx, prefix byte highest, and every
other row with its first byte lowest (log 19). -/
def tableBytes (nbits w : Nat) : List Byte :=
  let v := w % 2 ^ nbits
  if nbits = 16 ∧ v / 256 = 0xCB then [0xCB#8, BitVec.ofNat 8 v, 0#8]
  else [BitVec.ofNat 8 v, BitVec.ofNat 8 (v / 256), BitVec.ofNat 8 (v / 65536)]

/-- What the decoder reads from an instruction given by the opcode table's bits. -/
def decodeTableWord (nbits w : Nat) : Option Instr :=
  match decode (tableBytes nbits w) with
  | .ok (i, _) => some i
  | .error _ => none

/-- The bytes of an instruction, in fetch order (R304). STOP keeps its ignored byte (R902). -/
def encode : Instr → List Byte
  | .nop => [0x00]
  | .ldBcD16 nn => [0x01, lo nn, hi nn]
  | .ldIndBcA => [0x02]
  | .incBc => [0x03]
  | .incB => [0x04]
  | .decB => [0x05]
  | .ldBD8 n => [0x06, n]
  | .rlca => [0x07]
  | .ldIndA16Sp nn => [0x08, lo nn, hi nn]
  | .addHlBc => [0x09]
  | .ldAIndBc => [0x0A]
  | .decBc => [0x0B]
  | .incC => [0x0C]
  | .decC => [0x0D]
  | .ldCD8 n => [0x0E, n]
  | .rrca => [0x0F]
  | .stop n => [0x10, n]
  | .ldDeD16 nn => [0x11, lo nn, hi nn]
  | .ldIndDeA => [0x12]
  | .incDe => [0x13]
  | .incD => [0x14]
  | .decD => [0x15]
  | .ldDD8 n => [0x16, n]
  | .rla => [0x17]
  | .jrE8 e => [0x18, e]
  | .addHlDe => [0x19]
  | .ldAIndDe => [0x1A]
  | .decDe => [0x1B]
  | .incE => [0x1C]
  | .decE => [0x1D]
  | .ldED8 n => [0x1E, n]
  | .rra => [0x1F]
  | .jrNzE8 e => [0x20, e]
  | .ldHlD16 nn => [0x21, lo nn, hi nn]
  | .ldIndHliA => [0x22]
  | .incHl => [0x23]
  | .incH => [0x24]
  | .decH => [0x25]
  | .ldHD8 n => [0x26, n]
  | .daa => [0x27]
  | .jrZE8 e => [0x28, e]
  | .addHlHl => [0x29]
  | .ldAIndHli => [0x2A]
  | .decHl => [0x2B]
  | .incL => [0x2C]
  | .decL => [0x2D]
  | .ldLD8 n => [0x2E, n]
  | .cplA => [0x2F]
  | .jrNcE8 e => [0x30, e]
  | .ldSpD16 nn => [0x31, lo nn, hi nn]
  | .ldIndHldA => [0x32]
  | .incSp => [0x33]
  | .incIndHl => [0x34]
  | .decIndHl => [0x35]
  | .ldIndHlD8 n => [0x36, n]
  | .scf => [0x37]
  | .jrCE8 e => [0x38, e]
  | .addHlSp => [0x39]
  | .ldAIndHld => [0x3A]
  | .decSp => [0x3B]
  | .incA => [0x3C]
  | .decA => [0x3D]
  | .ldAD8 n => [0x3E, n]
  | .ccf => [0x3F]
  | .retNz => [0xC0]
  | .popBc => [0xC1]
  | .jpNzA16 nn => [0xC2, lo nn, hi nn]
  | .jpA16 nn => [0xC3, lo nn, hi nn]
  | .callNzA16 nn => [0xC4, lo nn, hi nn]
  | .pushBc => [0xC5]
  | .addAD8 n => [0xC6, n]
  | .rst00 => [0xC7]
  | .retZ => [0xC8]
  | .ret => [0xC9]
  | .jpZA16 nn => [0xCA, lo nn, hi nn]
  | .callZA16 nn => [0xCC, lo nn, hi nn]
  | .callA16 nn => [0xCD, lo nn, hi nn]
  | .adcAD8 n => [0xCE, n]
  | .rst08 => [0xCF]
  | .retNc => [0xD0]
  | .popDe => [0xD1]
  | .jpNcA16 nn => [0xD2, lo nn, hi nn]
  | .illegalD3 => [0xD3]
  | .callNcA16 nn => [0xD4, lo nn, hi nn]
  | .pushDe => [0xD5]
  | .subD8 n => [0xD6, n]
  | .rst10 => [0xD7]
  | .retC => [0xD8]
  | .reti => [0xD9]
  | .jpCA16 nn => [0xDA, lo nn, hi nn]
  | .illegalDB => [0xDB]
  | .callCA16 nn => [0xDC, lo nn, hi nn]
  | .illegalDD => [0xDD]
  | .sbcAD8 n => [0xDE, n]
  | .rst18 => [0xDF]
  | .ldhIndA8A n => [0xE0, n]
  | .popHl => [0xE1]
  | .ldhIndCA => [0xE2]
  | .illegalE3 => [0xE3]
  | .illegalE4 => [0xE4]
  | .pushHl => [0xE5]
  | .andD8 n => [0xE6, n]
  | .rst20 => [0xE7]
  | .addSpE8 e => [0xE8, e]
  | .jpHl => [0xE9]
  | .ldIndA16A nn => [0xEA, lo nn, hi nn]
  | .illegalEB => [0xEB]
  | .illegalEC => [0xEC]
  | .illegalED => [0xED]
  | .xorD8 n => [0xEE, n]
  | .rst28 => [0xEF]
  | .ldhAIndA8 n => [0xF0, n]
  | .popAf => [0xF1]
  | .ldhAIndC => [0xF2]
  | .di => [0xF3]
  | .illegalF4 => [0xF4]
  | .pushAf => [0xF5]
  | .orD8 n => [0xF6, n]
  | .rst30 => [0xF7]
  | .ldHlSpE8 e => [0xF8, e]
  | .ldSpHl => [0xF9]
  | .ldAIndA16 nn => [0xFA, lo nn, hi nn]
  | .ei => [0xFB]
  | .illegalFC => [0xFC]
  | .illegalFD => [0xFD]
  | .cpD8 n => [0xFE, n]
  | .rst38 => [0xFF]
  | .ldBB => [0x40]
  | .ldBC => [0x41]
  | .ldBD => [0x42]
  | .ldBE => [0x43]
  | .ldBH => [0x44]
  | .ldBL => [0x45]
  | .ldBIndHl => [0x46]
  | .ldBA => [0x47]
  | .ldCB => [0x48]
  | .ldCC => [0x49]
  | .ldCD => [0x4A]
  | .ldCE => [0x4B]
  | .ldCH => [0x4C]
  | .ldCL => [0x4D]
  | .ldCIndHl => [0x4E]
  | .ldCA => [0x4F]
  | .ldDB => [0x50]
  | .ldDC => [0x51]
  | .ldDD => [0x52]
  | .ldDE => [0x53]
  | .ldDH => [0x54]
  | .ldDL => [0x55]
  | .ldDIndHl => [0x56]
  | .ldDA => [0x57]
  | .ldEB => [0x58]
  | .ldEC => [0x59]
  | .ldED => [0x5A]
  | .ldEE => [0x5B]
  | .ldEH => [0x5C]
  | .ldEL => [0x5D]
  | .ldEIndHl => [0x5E]
  | .ldEA => [0x5F]
  | .ldHB => [0x60]
  | .ldHC => [0x61]
  | .ldHD => [0x62]
  | .ldHE => [0x63]
  | .ldHH => [0x64]
  | .ldHL => [0x65]
  | .ldHIndHl => [0x66]
  | .ldHA => [0x67]
  | .ldLB => [0x68]
  | .ldLC => [0x69]
  | .ldLD => [0x6A]
  | .ldLE => [0x6B]
  | .ldLH => [0x6C]
  | .ldLL => [0x6D]
  | .ldLIndHl => [0x6E]
  | .ldLA => [0x6F]
  | .ldIndHlB => [0x70]
  | .ldIndHlC => [0x71]
  | .ldIndHlD => [0x72]
  | .ldIndHlE => [0x73]
  | .ldIndHlH => [0x74]
  | .ldIndHlL => [0x75]
  | .halt => [0x76]
  | .ldIndHlA => [0x77]
  | .ldAB => [0x78]
  | .ldAC => [0x79]
  | .ldAD => [0x7A]
  | .ldAE => [0x7B]
  | .ldAH => [0x7C]
  | .ldAL => [0x7D]
  | .ldAIndHl => [0x7E]
  | .ldAA => [0x7F]
  | .addAB => [0x80]
  | .addAC => [0x81]
  | .addAD => [0x82]
  | .addAE => [0x83]
  | .addAH => [0x84]
  | .addAL => [0x85]
  | .addAIndHl => [0x86]
  | .addAA => [0x87]
  | .adcAB => [0x88]
  | .adcAC => [0x89]
  | .adcAD => [0x8A]
  | .adcAE => [0x8B]
  | .adcAH => [0x8C]
  | .adcAL => [0x8D]
  | .adcAIndHl => [0x8E]
  | .adcAA => [0x8F]
  | .subB => [0x90]
  | .subC => [0x91]
  | .subD => [0x92]
  | .subE => [0x93]
  | .subH => [0x94]
  | .subL => [0x95]
  | .subIndHl => [0x96]
  | .subA => [0x97]
  | .sbcAB => [0x98]
  | .sbcAC => [0x99]
  | .sbcAD => [0x9A]
  | .sbcAE => [0x9B]
  | .sbcAH => [0x9C]
  | .sbcAL => [0x9D]
  | .sbcAIndHl => [0x9E]
  | .sbcAA => [0x9F]
  | .andB => [0xA0]
  | .andC => [0xA1]
  | .andD => [0xA2]
  | .andE => [0xA3]
  | .andH => [0xA4]
  | .andL => [0xA5]
  | .andIndHl => [0xA6]
  | .andA => [0xA7]
  | .xorB => [0xA8]
  | .xorC => [0xA9]
  | .xorD => [0xAA]
  | .xorE => [0xAB]
  | .xorH => [0xAC]
  | .xorL => [0xAD]
  | .xorIndHl => [0xAE]
  | .xorA => [0xAF]
  | .orB => [0xB0]
  | .orC => [0xB1]
  | .orD => [0xB2]
  | .orE => [0xB3]
  | .orH => [0xB4]
  | .orL => [0xB5]
  | .orIndHl => [0xB6]
  | .orA => [0xB7]
  | .cpB => [0xB8]
  | .cpC => [0xB9]
  | .cpD => [0xBA]
  | .cpE => [0xBB]
  | .cpH => [0xBC]
  | .cpL => [0xBD]
  | .cpIndHl => [0xBE]
  | .cpA => [0xBF]
  | .cbRlcB => [0xCB, 0x00]
  | .cbRlcC => [0xCB, 0x01]
  | .cbRlcD => [0xCB, 0x02]
  | .cbRlcE => [0xCB, 0x03]
  | .cbRlcH => [0xCB, 0x04]
  | .cbRlcL => [0xCB, 0x05]
  | .cbRlcIndHl => [0xCB, 0x06]
  | .cbRlcA => [0xCB, 0x07]
  | .cbRrcB => [0xCB, 0x08]
  | .cbRrcC => [0xCB, 0x09]
  | .cbRrcD => [0xCB, 0x0A]
  | .cbRrcE => [0xCB, 0x0B]
  | .cbRrcH => [0xCB, 0x0C]
  | .cbRrcL => [0xCB, 0x0D]
  | .cbRrcIndHl => [0xCB, 0x0E]
  | .cbRrcA => [0xCB, 0x0F]
  | .cbRlB => [0xCB, 0x10]
  | .cbRlC => [0xCB, 0x11]
  | .cbRlD => [0xCB, 0x12]
  | .cbRlE => [0xCB, 0x13]
  | .cbRlH => [0xCB, 0x14]
  | .cbRlL => [0xCB, 0x15]
  | .cbRlIndHl => [0xCB, 0x16]
  | .cbRlA => [0xCB, 0x17]
  | .cbRrB => [0xCB, 0x18]
  | .cbRrC => [0xCB, 0x19]
  | .cbRrD => [0xCB, 0x1A]
  | .cbRrE => [0xCB, 0x1B]
  | .cbRrH => [0xCB, 0x1C]
  | .cbRrL => [0xCB, 0x1D]
  | .cbRrIndHl => [0xCB, 0x1E]
  | .cbRrA => [0xCB, 0x1F]
  | .cbSlaB => [0xCB, 0x20]
  | .cbSlaC => [0xCB, 0x21]
  | .cbSlaD => [0xCB, 0x22]
  | .cbSlaE => [0xCB, 0x23]
  | .cbSlaH => [0xCB, 0x24]
  | .cbSlaL => [0xCB, 0x25]
  | .cbSlaIndHl => [0xCB, 0x26]
  | .cbSlaA => [0xCB, 0x27]
  | .cbSraB => [0xCB, 0x28]
  | .cbSraC => [0xCB, 0x29]
  | .cbSraD => [0xCB, 0x2A]
  | .cbSraE => [0xCB, 0x2B]
  | .cbSraH => [0xCB, 0x2C]
  | .cbSraL => [0xCB, 0x2D]
  | .cbSraIndHl => [0xCB, 0x2E]
  | .cbSraA => [0xCB, 0x2F]
  | .cbSwapB => [0xCB, 0x30]
  | .cbSwapC => [0xCB, 0x31]
  | .cbSwapD => [0xCB, 0x32]
  | .cbSwapE => [0xCB, 0x33]
  | .cbSwapH => [0xCB, 0x34]
  | .cbSwapL => [0xCB, 0x35]
  | .cbSwapIndHl => [0xCB, 0x36]
  | .cbSwapA => [0xCB, 0x37]
  | .cbSrlB => [0xCB, 0x38]
  | .cbSrlC => [0xCB, 0x39]
  | .cbSrlD => [0xCB, 0x3A]
  | .cbSrlE => [0xCB, 0x3B]
  | .cbSrlH => [0xCB, 0x3C]
  | .cbSrlL => [0xCB, 0x3D]
  | .cbSrlIndHl => [0xCB, 0x3E]
  | .cbSrlA => [0xCB, 0x3F]
  | .cbBit0B => [0xCB, 0x40]
  | .cbBit0C => [0xCB, 0x41]
  | .cbBit0D => [0xCB, 0x42]
  | .cbBit0E => [0xCB, 0x43]
  | .cbBit0H => [0xCB, 0x44]
  | .cbBit0L => [0xCB, 0x45]
  | .cbBit0IndHl => [0xCB, 0x46]
  | .cbBit0A => [0xCB, 0x47]
  | .cbBit1B => [0xCB, 0x48]
  | .cbBit1C => [0xCB, 0x49]
  | .cbBit1D => [0xCB, 0x4A]
  | .cbBit1E => [0xCB, 0x4B]
  | .cbBit1H => [0xCB, 0x4C]
  | .cbBit1L => [0xCB, 0x4D]
  | .cbBit1IndHl => [0xCB, 0x4E]
  | .cbBit1A => [0xCB, 0x4F]
  | .cbBit2B => [0xCB, 0x50]
  | .cbBit2C => [0xCB, 0x51]
  | .cbBit2D => [0xCB, 0x52]
  | .cbBit2E => [0xCB, 0x53]
  | .cbBit2H => [0xCB, 0x54]
  | .cbBit2L => [0xCB, 0x55]
  | .cbBit2IndHl => [0xCB, 0x56]
  | .cbBit2A => [0xCB, 0x57]
  | .cbBit3B => [0xCB, 0x58]
  | .cbBit3C => [0xCB, 0x59]
  | .cbBit3D => [0xCB, 0x5A]
  | .cbBit3E => [0xCB, 0x5B]
  | .cbBit3H => [0xCB, 0x5C]
  | .cbBit3L => [0xCB, 0x5D]
  | .cbBit3IndHl => [0xCB, 0x5E]
  | .cbBit3A => [0xCB, 0x5F]
  | .cbBit4B => [0xCB, 0x60]
  | .cbBit4C => [0xCB, 0x61]
  | .cbBit4D => [0xCB, 0x62]
  | .cbBit4E => [0xCB, 0x63]
  | .cbBit4H => [0xCB, 0x64]
  | .cbBit4L => [0xCB, 0x65]
  | .cbBit4IndHl => [0xCB, 0x66]
  | .cbBit4A => [0xCB, 0x67]
  | .cbBit5B => [0xCB, 0x68]
  | .cbBit5C => [0xCB, 0x69]
  | .cbBit5D => [0xCB, 0x6A]
  | .cbBit5E => [0xCB, 0x6B]
  | .cbBit5H => [0xCB, 0x6C]
  | .cbBit5L => [0xCB, 0x6D]
  | .cbBit5IndHl => [0xCB, 0x6E]
  | .cbBit5A => [0xCB, 0x6F]
  | .cbBit6B => [0xCB, 0x70]
  | .cbBit6C => [0xCB, 0x71]
  | .cbBit6D => [0xCB, 0x72]
  | .cbBit6E => [0xCB, 0x73]
  | .cbBit6H => [0xCB, 0x74]
  | .cbBit6L => [0xCB, 0x75]
  | .cbBit6IndHl => [0xCB, 0x76]
  | .cbBit6A => [0xCB, 0x77]
  | .cbBit7B => [0xCB, 0x78]
  | .cbBit7C => [0xCB, 0x79]
  | .cbBit7D => [0xCB, 0x7A]
  | .cbBit7E => [0xCB, 0x7B]
  | .cbBit7H => [0xCB, 0x7C]
  | .cbBit7L => [0xCB, 0x7D]
  | .cbBit7IndHl => [0xCB, 0x7E]
  | .cbBit7A => [0xCB, 0x7F]
  | .cbRes0B => [0xCB, 0x80]
  | .cbRes0C => [0xCB, 0x81]
  | .cbRes0D => [0xCB, 0x82]
  | .cbRes0E => [0xCB, 0x83]
  | .cbRes0H => [0xCB, 0x84]
  | .cbRes0L => [0xCB, 0x85]
  | .cbRes0IndHl => [0xCB, 0x86]
  | .cbRes0A => [0xCB, 0x87]
  | .cbRes1B => [0xCB, 0x88]
  | .cbRes1C => [0xCB, 0x89]
  | .cbRes1D => [0xCB, 0x8A]
  | .cbRes1E => [0xCB, 0x8B]
  | .cbRes1H => [0xCB, 0x8C]
  | .cbRes1L => [0xCB, 0x8D]
  | .cbRes1IndHl => [0xCB, 0x8E]
  | .cbRes1A => [0xCB, 0x8F]
  | .cbRes2B => [0xCB, 0x90]
  | .cbRes2C => [0xCB, 0x91]
  | .cbRes2D => [0xCB, 0x92]
  | .cbRes2E => [0xCB, 0x93]
  | .cbRes2H => [0xCB, 0x94]
  | .cbRes2L => [0xCB, 0x95]
  | .cbRes2IndHl => [0xCB, 0x96]
  | .cbRes2A => [0xCB, 0x97]
  | .cbRes3B => [0xCB, 0x98]
  | .cbRes3C => [0xCB, 0x99]
  | .cbRes3D => [0xCB, 0x9A]
  | .cbRes3E => [0xCB, 0x9B]
  | .cbRes3H => [0xCB, 0x9C]
  | .cbRes3L => [0xCB, 0x9D]
  | .cbRes3IndHl => [0xCB, 0x9E]
  | .cbRes3A => [0xCB, 0x9F]
  | .cbRes4B => [0xCB, 0xA0]
  | .cbRes4C => [0xCB, 0xA1]
  | .cbRes4D => [0xCB, 0xA2]
  | .cbRes4E => [0xCB, 0xA3]
  | .cbRes4H => [0xCB, 0xA4]
  | .cbRes4L => [0xCB, 0xA5]
  | .cbRes4IndHl => [0xCB, 0xA6]
  | .cbRes4A => [0xCB, 0xA7]
  | .cbRes5B => [0xCB, 0xA8]
  | .cbRes5C => [0xCB, 0xA9]
  | .cbRes5D => [0xCB, 0xAA]
  | .cbRes5E => [0xCB, 0xAB]
  | .cbRes5H => [0xCB, 0xAC]
  | .cbRes5L => [0xCB, 0xAD]
  | .cbRes5IndHl => [0xCB, 0xAE]
  | .cbRes5A => [0xCB, 0xAF]
  | .cbRes6B => [0xCB, 0xB0]
  | .cbRes6C => [0xCB, 0xB1]
  | .cbRes6D => [0xCB, 0xB2]
  | .cbRes6E => [0xCB, 0xB3]
  | .cbRes6H => [0xCB, 0xB4]
  | .cbRes6L => [0xCB, 0xB5]
  | .cbRes6IndHl => [0xCB, 0xB6]
  | .cbRes6A => [0xCB, 0xB7]
  | .cbRes7B => [0xCB, 0xB8]
  | .cbRes7C => [0xCB, 0xB9]
  | .cbRes7D => [0xCB, 0xBA]
  | .cbRes7E => [0xCB, 0xBB]
  | .cbRes7H => [0xCB, 0xBC]
  | .cbRes7L => [0xCB, 0xBD]
  | .cbRes7IndHl => [0xCB, 0xBE]
  | .cbRes7A => [0xCB, 0xBF]
  | .cbSet0B => [0xCB, 0xC0]
  | .cbSet0C => [0xCB, 0xC1]
  | .cbSet0D => [0xCB, 0xC2]
  | .cbSet0E => [0xCB, 0xC3]
  | .cbSet0H => [0xCB, 0xC4]
  | .cbSet0L => [0xCB, 0xC5]
  | .cbSet0IndHl => [0xCB, 0xC6]
  | .cbSet0A => [0xCB, 0xC7]
  | .cbSet1B => [0xCB, 0xC8]
  | .cbSet1C => [0xCB, 0xC9]
  | .cbSet1D => [0xCB, 0xCA]
  | .cbSet1E => [0xCB, 0xCB]
  | .cbSet1H => [0xCB, 0xCC]
  | .cbSet1L => [0xCB, 0xCD]
  | .cbSet1IndHl => [0xCB, 0xCE]
  | .cbSet1A => [0xCB, 0xCF]
  | .cbSet2B => [0xCB, 0xD0]
  | .cbSet2C => [0xCB, 0xD1]
  | .cbSet2D => [0xCB, 0xD2]
  | .cbSet2E => [0xCB, 0xD3]
  | .cbSet2H => [0xCB, 0xD4]
  | .cbSet2L => [0xCB, 0xD5]
  | .cbSet2IndHl => [0xCB, 0xD6]
  | .cbSet2A => [0xCB, 0xD7]
  | .cbSet3B => [0xCB, 0xD8]
  | .cbSet3C => [0xCB, 0xD9]
  | .cbSet3D => [0xCB, 0xDA]
  | .cbSet3E => [0xCB, 0xDB]
  | .cbSet3H => [0xCB, 0xDC]
  | .cbSet3L => [0xCB, 0xDD]
  | .cbSet3IndHl => [0xCB, 0xDE]
  | .cbSet3A => [0xCB, 0xDF]
  | .cbSet4B => [0xCB, 0xE0]
  | .cbSet4C => [0xCB, 0xE1]
  | .cbSet4D => [0xCB, 0xE2]
  | .cbSet4E => [0xCB, 0xE3]
  | .cbSet4H => [0xCB, 0xE4]
  | .cbSet4L => [0xCB, 0xE5]
  | .cbSet4IndHl => [0xCB, 0xE6]
  | .cbSet4A => [0xCB, 0xE7]
  | .cbSet5B => [0xCB, 0xE8]
  | .cbSet5C => [0xCB, 0xE9]
  | .cbSet5D => [0xCB, 0xEA]
  | .cbSet5E => [0xCB, 0xEB]
  | .cbSet5H => [0xCB, 0xEC]
  | .cbSet5L => [0xCB, 0xED]
  | .cbSet5IndHl => [0xCB, 0xEE]
  | .cbSet5A => [0xCB, 0xEF]
  | .cbSet6B => [0xCB, 0xF0]
  | .cbSet6C => [0xCB, 0xF1]
  | .cbSet6D => [0xCB, 0xF2]
  | .cbSet6E => [0xCB, 0xF3]
  | .cbSet6H => [0xCB, 0xF4]
  | .cbSet6L => [0xCB, 0xF5]
  | .cbSet6IndHl => [0xCB, 0xF6]
  | .cbSet6A => [0xCB, 0xF7]
  | .cbSet7B => [0xCB, 0xF8]
  | .cbSet7C => [0xCB, 0xF9]
  | .cbSet7D => [0xCB, 0xFA]
  | .cbSet7E => [0xCB, 0xFB]
  | .cbSet7H => [0xCB, 0xFC]
  | .cbSet7L => [0xCB, 0xFD]
  | .cbSet7IndHl => [0xCB, 0xFE]
  | .cbSet7A => [0xCB, 0xFF]

end Sys2Proof
end

