-- ==== Sys2Proof/Config.lean ====
section
/-! DEFINITION. What a launch fixes (the parameters of 00_scope.md R7 and the cartridge of 20_memory.md R250-R252), and the two
free values the spec draws (AUDIO_READ, DMA_HIGH_SRC). -/

namespace Sys2Proof

/-- Bytes by place: a list of (place, byte), places strictly rising, no entry equal to the unlisted byte.
`Machine.Memory.wf` states that form. -/
abbrev Memory := List Host.Cell

/-- `STAT_IRQ_MODEL` (R7, R1102, R1107). -/
inductive StatIrqModel where
  | events | line
deriving DecidableEq, Repr

/-- The parameters of R7 that the rules consult while the machine runs, each at its default. -/
structure Params where
  /-- `PERMISSIVE_ILLEGAL` (R905). -/
  permissiveIllegal : Bool := false
  /-- `MODE3_T`, the pixel-transfer length in T-cycles (R1105). -/
  mode3T : Nat := 172
  /-- `VRAM_READ_BLOCK` (R206). -/
  vramReadBlock : Bool := true
  /-- `OAM_BLOCK` (R210). -/
  oamBlock : Bool := true
  /-- `STAT_IRQ_MODEL` (R1107). -/
  statIrqModel : StatIrqModel := .events
  /-- `MBC1_BANK0_REMAP` (R203). -/
  mbc1Bank0Remap : Bool := false
  /-- `HALT_WAKE_EXTRA_T` (R1030). -/
  haltWakeExtraT : Nat := 0
  /-- `SPRITES_PER_LINE` (R1116). -/
  spritesPerLine : Nat := 10
deriving DecidableEq, Repr

/-- The supported mappers of R250. -/
inductive Mapper where
  | romOnly | mbc1 | mbc3 | mbc5
deriving DecidableEq, Repr

/-- What Load reads from the header (R250-R252). -/
structure Cartridge where
  mapper : Mapper
  /-- The MBC5 rumble types 0x1C-0x1E, whose `ram_sel` has 3 bits (R261). -/
  rumble : Bool
  /-- Metadata only: persistence is the host's (R265). -/
  battery : Bool
  /-- `rom_banks`, a power of two from 2 to 512 (R251). -/
  romBanks : Nat
  /-- `ram_size` in bytes; 0 when the cartridge has no RAM (R252). -/
  ramSize : Nat
deriving DecidableEq, Repr

/-- The ROM byte string: its length, and its bytes by offset. -/
structure RomImage where
  length : Nat
  cells : Memory
deriving DecidableEq, Repr

/-- Everything a launch fixes and no step changes. DESIGN CHOICE (log 1): R165 keeps these out of the state; the model
holds them in State's field `launch`, because a meaning has no other argument. -/
structure Launch where
  rom : RomImage
  cart : Cartridge
  params : Params
deriving DecidableEq, Repr

/-- The open launch arguments of R7 that only Load consults (D17). -/
structure InitArgs where
  /-- `INIT_MEM`, by memory place. -/
  mem : Memory
  /-- `INIT_DIV_LO`. -/
  divLo : Byte
  /-- `INIT_OBP0`. -/
  obp0 : Byte
  /-- `INIT_OBP1`. -/
  obp1 : Byte
deriving DecidableEq, Repr

/-- `AUDIO_READ` (R151, D21): the byte the n-th draw gives; nothing constrains it (log 7). -/
opaque Config.audioRead : Nat → Byte

/-- `DMA_HIGH_SRC` (R1090, D23): the byte the n-th draw gives; nothing constrains it (log 8). -/
opaque Config.dmaHighSrc : Nat → Byte

end Sys2Proof
end

