-- ==== Sys2Proof/Machine/State.lean ====
section
/-! DEFINITION. The machine's state (10_state.md R100-R173), the reasons it can stop, and the state after Load. -/

namespace Sys2Proof.Machine

/-- The four flags, F[7:4]; F[3:0] reads 0 and is not stored (R106, R110). -/
structure Flags where
  z : Bool
  n : Bool
  h : Bool
  c : Bool
deriving DecidableEq, Repr

/-- The CPU's run state (R122). -/
inductive RunState where
  | running | halted | stopped | faulted
deriving DecidableEq, Repr

/-- The record a DecodeError leaves (R125). -/
structure FaultRecord where
  addr : Word
  opcode : Byte
deriving DecidableEq, Repr

/-- CPU registers and control state (R100-R125). -/
structure Cpu where
  a : Byte
  f : Flags
  b : Byte
  c : Byte
  d : Byte
  e : Byte
  h : Byte
  l : Byte
  sp : Word
  pc : Word
  ime : Bool
  eiPending : Bool
  run : RunState
  haltBug : Bool
  fault : Option FaultRecord
  /-- The model's own: the address the current instruction's opcode byte was read from, for R905 and R1050 (log 10). -/
  opAddr : Word
deriving DecidableEq, Repr

/-- IF bits 4-0 (R137) and IE (R150). -/
structure Interrupts where
  iflag : BitVec 5
  ie : Byte
deriving DecidableEq, Repr

/-- The timer (R134-R136, R160). -/
structure Timer where
  divCounter : Word
  tima : Byte
  tma : Byte
  tac : BitVec 3
deriving DecidableEq, Repr

/-- P1's select bits, bit 1 = P1[5], bit 0 = P1[4] (R130), and the host's buttons (R163). -/
structure Joypad where
  select : BitVec 2
  buttons : Byte
deriving DecidableEq, Repr

/-- SB (R131) and SC's two stored bits, 7 and 0 (R132). -/
structure Serial where
  sb : Byte
  scStart : Bool
  scClock : Bool
deriving DecidableEq, Repr

/-- The PPU's modes (R161), numbered in STAT as `PpuMode.code` says. -/
inductive PpuMode where
  | hblank | vblank | oamScan | pixelTransfer
deriving DecidableEq, Repr

/-- A picture: 144 rows of 160 shades (R1117). -/
abbrev Frame := List (List (BitVec 2))

/-- The PPU's registers (R138-R143, R145-R149) and hidden state (R161, R164). -/
structure Ppu where
  lcdc : Byte
  /-- STAT bits 6-3: bit 3 LYC, bit 2 mode 2, bit 1 mode 1, bit 0 mode 0 (R139). -/
  statEnables : BitVec 4
  statCoincidence : Bool
  mode : PpuMode
  dot : Nat
  ly : Byte
  lyc : Byte
  scy : Byte
  scx : Byte
  wy : Byte
  wx : Byte
  bgp : Byte
  obp0 : Byte
  obp1 : Byte
  winLine : Nat
  frameComplete : Bool
  framebuffer : Frame
  lastFrame : Frame
deriving DecidableEq, Repr

/-- The mapper registers (20_memory.md R253-R262). MBC1 uses `lower`, `upper`, `mode`; MBC3 and MBC5 use `romBank`, `ramSel`. -/
structure MapperRegs where
  ramEnabled : Bool
  lower : BitVec 5
  upper : BitVec 2
  mode : Bool
  romBank : BitVec 9
  ramSel : Byte
deriving DecidableEq, Repr

/-- The machine's state: everything R165 lists, the launch arguments (log 1), and the model's draw counter (log 7). -/
structure State where
  cpu : Cpu
  /-- T-cycles since Load (R124). -/
  cycles : Nat
  intr : Interrupts
  timer : Timer
  joypad : Joypad
  serial : Serial
  ppu : Ppu
  /-- The DMA register (R144). -/
  dma : Byte
  mapper : MapperRegs
  /-- VRAM, WRAM, OAM, HRAM by CPU address, cartridge RAM at 0x10000 + index (R162, log 21). -/
  mem : Memory
  /-- The model's own: how many free bytes have been drawn (log 7). -/
  draws : Nat
  launch : Launch
deriving DecidableEq, Repr

/-- Why an operation ends in a fault. No step of the machine faults: every exception R1052 lists other than LoadError is
entered as the spec describes and is a next state. -/
inductive Fault where
  /-- Raised by Load: the image is shorter than a header (R1051, R1200). Safe: no machine exists. -/
  | loadTruncated
  /-- Raised by Load: the header's mapper-type byte is not supported (R250, R1200). Safe: no machine exists. -/
  | loadUnsupportedMapper (typeByte : Byte)
  /-- Raised by Load: an unknown ROM-size or RAM-size code (R251, R1200). Safe: no machine exists. -/
  | loadBadHeader
deriving DecidableEq, Repr

/-- Why an instruction is refused. -/
inductive Refusal where
  /-- Raised by exec for an instruction without a meaning; no instruction of this model is one. Safe. -/
  | notModelled (mnemonic : String)
deriving DecidableEq, Repr

/-- The CPU after Load (R170). -/
def Cpu.afterLoad : Cpu where
  a := 0x01
  f := { z := true, n := false, h := true, c := true }
  b := 0x00
  c := 0x13
  d := 0x00
  e := 0xD8
  h := 0x01
  l := 0x4D
  sp := 0xFFFE
  pc := 0x0100
  ime := false
  eiPending := false
  run := .running
  haltBug := false
  fault := none
  opAddr := 0x0100

/-- A picture of one shade. -/
def Frame.blank : Frame := List.replicate 144 (List.replicate 160 0)

/-- The PPU after Load (R171); OBP0 and OBP1 are launch arguments, the framebuffers open (R172, log 6). -/
def Ppu.afterLoad (obp0 obp1 : Byte) : Ppu where
  lcdc := 0x91
  statEnables := 0
  statCoincidence := true
  mode := .oamScan
  dot := 0
  ly := 0x00
  lyc := 0x00
  scy := 0x00
  scx := 0x00
  wy := 0x00
  wx := 0x00
  bgp := 0xFC
  obp0 := obp0
  obp1 := obp1
  winLine := 0
  frameComplete := false
  framebuffer := Frame.blank
  lastFrame := Frame.blank

/-- The mapper registers after Load (R173, log 13). -/
def MapperRegs.afterLoad : MapperRegs where
  ramEnabled := false
  lower := 1
  upper := 0
  mode := false
  romBank := 1
  ramSel := 0

/-- The machine Load builds (R170-R173, 70_reset_and_hazards.md R1200) from what a launch fixes and the open arguments. -/
def State.afterLoad (launch : Launch) (args : InitArgs) : State where
  cpu := Cpu.afterLoad
  cycles := 0
  intr := { iflag := 0b00001, ie := 0x00 }
  timer := { divCounter := 0xAB#8 ++ args.divLo, tima := 0x00, tma := 0x00, tac := 0 }
  joypad := { select := 0b00, buttons := 0x00 }
  serial := { sb := 0x00, scStart := false, scClock := false }
  ppu := Ppu.afterLoad args.obp0 args.obp1
  dma := 0xFF
  mapper := MapperRegs.afterLoad
  mem := args.mem
  draws := 0
  launch := launch

/-- DESIGN CHOICE (log 2): the cartridge of State.reset, 32 KiB of 0x00, whose header reads ROM only, two banks, no RAM. -/
def Launch.blank : Launch where
  rom := { length := 0x8000, cells := [] }
  cart := { mapper := .romOnly, rumble := false, battery := false, romBanks := 2, ramSize := 0 }
  params := {}

/-- DESIGN CHOICE (log 3, 4, 5): the open launch arguments of State.reset, those of base state B0 (95_test_vectors.md). -/
def InitArgs.base : InitArgs where
  mem := []
  divLo := 0x00
  obp0 := 0xFF
  obp1 := 0xFF

/-- The machine right after reset: Load, the only reset (R1200, R1201), of the blank cartridge. -/
def State.reset : State := State.afterLoad Launch.blank InitArgs.base

end Sys2Proof.Machine
end

