-- ==== Sys2Proof/Machine/Memory.lean ====
section
/-! DEFINITION. Memory as data: reading and writing one byte of the list, its canonical form, and a byte of the ROM image. -/

namespace Sys2Proof.Machine

/-- DESIGN CHOICE (log 3): what a place that nothing has written reads as (10_state.md R172 leaves it open). -/
def Memory.unlisted : Byte := 0x00

/-- The byte at a place. -/
def Memory.read : Memory → Nat → Byte
  | [], _ => Memory.unlisted
  | (k, v) :: m, p => if k = p then v else Memory.read m p

/-- The list with `v` listed at place `p`, in order. -/
def Memory.insert : Memory → Nat → Byte → Memory
  | [], p, v => [(p, v)]
  | (k, w) :: m, p, v =>
    if p < k then (p, v) :: (k, w) :: m
    else if p = k then (p, v) :: m
    else (k, w) :: Memory.insert m p v

/-- Store one byte, keeping the canonical form: the unlisted byte is stored by removing the entry. -/
def Memory.write (m : Memory) (p : Nat) (v : Byte) : Memory :=
  if v = Memory.unlisted then m.filter (fun c => c.1 != p) else Memory.insert m p v

/-- The canonical form: places strictly rising, no entry equal to the unlisted byte. -/
def Memory.wf : Memory → Bool
  | [] => true
  | (k, v) :: m => v != Memory.unlisted && m.all (fun c => k < c.1) && Memory.wf m

/-- Every listed place satisfies a test. -/
def Memory.within (ok : Nat → Bool) (m : Memory) : Bool := m.all (fun c => ok c.1)

/-- What the bus gives where nothing answers: the fill value of 20_memory.md R200, R211, R264. -/
def fillByte : Byte := 0xFF

/-- Byte `i` of the ROM string: the fill value at or beyond its length (R264). -/
def romByte (r : RomImage) (i : Nat) : Byte :=
  if i < r.length then Memory.read r.cells i else fillByte

end Sys2Proof.Machine
end

