-- ==== Sys2Proof/Machine/Interrupts.lean ====
section
/-! DEFINITION. Interrupt requests, what is pending, priority and vectors (60_exceptions.md R1010-R1022). -/

namespace Sys2Proof.Machine

/-- The five interrupt sources, in bit order, which is priority order (R1011, R1022). -/
inductive IntSource where
  | vblank | stat | timer | serial | joypad
deriving DecidableEq, Repr

/-- The source's bit in IF and IE (R137, R1011). -/
def IntSource.bit : IntSource → Nat
  | .vblank => 0 | .stat => 1 | .timer => 2 | .serial => 3 | .joypad => 4

/-- `vector(i)` = 0x0040 + 8 · i (R1021). -/
def IntSource.vector (i : IntSource) : Word := BitVec.ofNat 16 (0x0040 + 8 * i.bit)

/-- `request(i)` sets IF[i] (R1010). -/
def State.request (s : State) (i : IntSource) : State :=
  { s with intr := { s.intr with iflag := s.intr.iflag ||| (1#5 <<< i.bit) } }

/-- IF[i] <- 0, as the dispatch does (R1020). -/
def State.acknowledge (s : State) (i : IntSource) : State :=
  { s with intr := { s.intr with iflag := s.intr.iflag &&& ~~~(1#5 <<< i.bit) } }

/-- `pending()` = IE & IF & 0x1F (R1010). -/
def State.pending (s : State) : BitVec 5 := s.intr.ie.extractLsb' 0 5 &&& s.intr.iflag

/-- The lowest-numbered pending source (R1022); its value when nothing is pending is never used. -/
def firstPending (p : BitVec 5) : IntSource :=
  if p.getLsbD 0 then .vblank
  else if p.getLsbD 1 then .stat
  else if p.getLsbD 2 then .timer
  else if p.getLsbD 3 then .serial
  else .joypad

end Sys2Proof.Machine
end

