-- ==== Sys2Proof/Machine/Joypad.lean ====
section
/-! DEFINITION. The joypad (60_exceptions.md R1080, R1081). -/

namespace Sys2Proof.Machine

/-- `JoypadLines()`: the input lines P1[3:0], 0 = pressed and selected (R1080). -/
def joypadLines (j : Joypad) : BitVec 4 :=
  let directions := if j.select.getLsbD 0 then 0#4 else j.buttons.extractLsb' 0 4
  let actions := if j.select.getLsbD 1 then 0#4 else j.buttons.extractLsb' 4 4
  ~~~(directions ||| actions)

/-- `JoypadCheck(old)`: request the Joypad interrupt when some line fell (R1081). -/
def State.joypadCheck (s : State) (old : BitVec 4) : State :=
  if old &&& ~~~(joypadLines s.joypad) = 0 then s else s.request .joypad

/-- A write of `v` to P1 stores bits 5-4 (R130, R213). -/
def State.p1Write (s : State) (v : Byte) : State :=
  State.joypadCheck { s with joypad := { s.joypad with select := v.extractLsb' 4 2 } } (joypadLines s.joypad)

/-- `SetButtons(b)`, the host's only input between steps (R1095). -/
def State.setButtons (s : State) (b : Byte) : State :=
  State.joypadCheck { s with joypad := { s.joypad with buttons := b } } (joypadLines s.joypad)

end Sys2Proof.Machine
end

