-- ==== Sys2Proof/Machine/Mapper.lean ====
section
/-! DEFINITION. The address map's regions (20_memory.md R200) and cartridge banking (R203-R207, R253-R265). -/

namespace Sys2Proof.Machine

/-- The regions of R200. -/
inductive Region where
  | rom0 | romX | vram | extRam | wram | echo | oam | unused | io | hram | ie
deriving DecidableEq, Repr

/-- The region of an address (R200). -/
def region (a : Word) : Region :=
  if a.toNat ≤ 0x3FFF then .rom0
  else if a.toNat ≤ 0x7FFF then .romX
  else if a.toNat ≤ 0x9FFF then .vram
  else if a.toNat ≤ 0xBFFF then .extRam
  else if a.toNat ≤ 0xDFFF then .wram
  else if a.toNat ≤ 0xFDFF then .echo
  else if a.toNat ≤ 0xFE9F then .oam
  else if a.toNat ≤ 0xFEFF then .unused
  else if a.toNat ≤ 0xFF7F then .io
  else if a.toNat ≤ 0xFFFE then .hram
  else .ie

/-- The bank that `bank` selects among `count` banks: masked by the count minus one (R258, R260, R262, R263). -/
def maskBank (bank count : Nat) : Nat := bank &&& (count - 1)

/-- `ram_banks` = max(1, ram_size / 8192) (R252). -/
def ramBanks (c : Cartridge) : Nat := max 1 (c.ramSize / 8192)

/-- `bank0()` (R203, R258). -/
def State.bank0 (s : State) : Nat :=
  if s.launch.cart.mapper = .mbc1 ∧ s.launch.params.mbc1Bank0Remap = true ∧ s.mapper.mode = true then
    maskBank (s.mapper.upper.toNat <<< 5) s.launch.cart.romBanks
  else 0

/-- `bankX()` (R204, R253, R258, R260, R262). -/
def State.bankX (s : State) : Nat :=
  match s.launch.cart.mapper with
  | .romOnly => 1
  | .mbc1 => maskBank ((s.mapper.upper.toNat <<< 5) ||| s.mapper.lower.toNat) s.launch.cart.romBanks
  | .mbc3 => maskBank s.mapper.romBank.toNat s.launch.cart.romBanks
  | .mbc5 => maskBank s.mapper.romBank.toNat s.launch.cart.romBanks

/-- `RomRead(bank, off)` (R264). -/
def State.romRead (s : State) (bank offset : Nat) : Byte := romByte s.launch.rom (bank * 0x4000 + offset)

/-- External RAM answers: there is RAM, it is enabled (always, on a ROM-only cartridge, R253), and an MBC3 does not select
a clock register (R207, R260). -/
def State.extRamOn (s : State) : Bool :=
  s.launch.cart.ramSize != 0 &&
    match s.launch.cart.mapper with
    | .romOnly => true
    | .mbc1 => s.mapper.ramEnabled
    | .mbc3 => s.mapper.ramEnabled && s.mapper.ramSel.toNat ≤ 0x03
    | .mbc5 => s.mapper.ramEnabled

/-- `ram_bank()` (R253, R258, R260, R262). -/
def State.ramBank (s : State) : Nat :=
  match s.launch.cart.mapper with
  | .romOnly => 0
  | .mbc1 => maskBank (if s.mapper.mode then s.mapper.upper.toNat else 0) (ramBanks s.launch.cart)
  | .mbc3 => maskBank s.mapper.ramSel.toNat (ramBanks s.launch.cart)
  | .mbc5 => maskBank s.mapper.ramSel.toNat (ramBanks s.launch.cart)

/-- Where the model lists byte `i` of cartridge RAM (log 21). -/
def extRamPlace (i : Nat) : Nat := 0x10000 + i

/-- The cartridge-RAM index of window offset `o` (R207, R265). -/
def State.extRamIndex (s : State) (o : Nat) : Nat := (s.ramBank * 0x2000 + o) % s.launch.cart.ramSize

/-- The memory place that an address names, blocking aside: VRAM, WRAM and its echo (R209), OAM, HRAM, and external RAM
while it answers. None for ROM, unused, I/O and IE addresses, and for external RAM that does not answer. -/
def State.place (s : State) (a : Word) : Option Nat :=
  match region a with
  | .vram => some a.toNat
  | .extRam => if s.extRamOn then some (extRamPlace (s.extRamIndex (a.toNat - 0xA000))) else none
  | .wram => some a.toNat
  | .echo => some (0xC000 + (a.toNat - 0xE000) % 0x2000)
  | .oam => some a.toNat
  | .hram => some a.toNat
  | .rom0 | .romX | .unused | .io | .ie => none

/-- The MBC1 commands (R254-R257). -/
def mbc1Write (m : MapperRegs) (a : Word) (v : Byte) : MapperRegs :=
  if a.toNat ≤ 0x1FFF then { m with ramEnabled := decide (v.extractLsb' 0 4 = 0xA#4) }
  else if a.toNat ≤ 0x3FFF then
    { m with lower := if v.extractLsb' 0 5 = 0#5 then 1#5 else v.extractLsb' 0 5 }
  else if a.toNat ≤ 0x5FFF then { m with upper := v.extractLsb' 0 2 }
  else { m with mode := v.getLsbD 0 }

/-- The MBC3 commands (R259). -/
def mbc3Write (m : MapperRegs) (a : Word) (v : Byte) : MapperRegs :=
  if a.toNat ≤ 0x1FFF then { m with ramEnabled := decide (v.extractLsb' 0 4 = 0xA#4) }
  else if a.toNat ≤ 0x3FFF then
    { m with romBank := if v.extractLsb' 0 7 = 0#7 then 1#9 else (v.extractLsb' 0 7).zeroExtend 9 }
  else if a.toNat ≤ 0x5FFF then { m with ramSel := v }
  else m

/-- The MBC5 commands (R261). -/
def mbc5Write (rumble : Bool) (m : MapperRegs) (a : Word) (v : Byte) : MapperRegs :=
  if a.toNat ≤ 0x1FFF then { m with ramEnabled := decide (v = 0x0A) }
  else if a.toNat ≤ 0x2FFF then { m with romBank := m.romBank.extractLsb' 8 1 ++ v }
  else if a.toNat ≤ 0x3FFF then { m with romBank := v.extractLsb' 0 1 ++ m.romBank.extractLsb' 0 8 }
  else if a.toNat ≤ 0x5FFF then { m with ramSel := if rumble then v &&& 0x07 else v &&& 0x0F }
  else m

/-- `MapperWrite(a, v)`: only the mapper registers change (R205, R253, R266). -/
def State.mapperWrite (s : State) (a : Word) (v : Byte) : State :=
  match s.launch.cart.mapper with
  | .romOnly => s
  | .mbc1 => { s with mapper := mbc1Write s.mapper a v }
  | .mbc3 => { s with mapper := mbc3Write s.mapper a v }
  | .mbc5 => { s with mapper := mbc5Write s.launch.cart.rumble s.mapper a v }

end Sys2Proof.Machine
end

