-- ==== Sys2Proof/Machine/Render.lean ====
section
/-! DEFINITION. Rendering one line (60_exceptions.md R1110-R1117). The PPU reads VRAM and OAM directly, never through the bus (R206). -/

namespace Sys2Proof.Machine

/-- Byte of VRAM by offset. -/
def State.vramByte (s : State) (offset : Nat) : Byte := Memory.read s.mem (0x8000 + offset)

/-- Byte of OAM by offset. -/
def State.oamByte (s : State) (offset : Nat) : Byte := Memory.read s.mem (0xFE00 + offset)

/-- The colour index of column `c` of a tile row: `hi[7 - c] · 2 + lo[7 - c]` (R1111). -/
def colourIndex (low high : Byte) (c : Nat) : BitVec 2 :=
  BitVec.ofBool (high.getLsbD (7 - c)) ++ BitVec.ofBool (low.getLsbD (7 - c))

/-- The VRAM offset of a background or window tile, unsigned or signed by LCDC[4] (R1111). -/
def tileOffset (lcdc4 : Bool) (tile : Byte) : Nat :=
  if lcdc4 then 16 * tile.toNat else (0x1000 + 16 * tile.toInt).toNat

/-- `MapPixel(m, px, py)` (R1111). -/
def State.mapPixel (s : State) (m px py : Nat) : BitVec 2 :=
  let tile := s.vramByte (m + 32 * (py / 8) + px / 8)
  let base := tileOffset (s.ppu.lcdc.getLsbD 4) tile + 2 * (py % 8)
  colourIndex (s.vramByte base) (s.vramByte (base + 1)) (px % 8)

/-- The VRAM offset of the tile map a map-select bit names (R1111). -/
def tileMap (select : Bool) : Nat := if select then 0x1C00 else 0x1800

/-- The window covers column `x` of line `y` (R1113). -/
def windowCovers (p : Ppu) (y x : Nat) : Bool :=
  p.lcdc.getLsbD 0 && p.lcdc.getLsbD 5 && p.wy.toNat ≤ y && p.wx.toNat ≤ 166 && p.wx.toNat ≤ x + 7

/-- `bgi[x]`, the background or window colour index (R1112, R1113). -/
def State.bgIndex (s : State) (y x : Nat) : BitVec 2 :=
  if !s.ppu.lcdc.getLsbD 0 then 0
  else if windowCovers s.ppu y x then
    s.mapPixel (tileMap (s.ppu.lcdc.getLsbD 6)) (x + 7 - s.ppu.wx.toNat) s.ppu.winLine
  else
    s.mapPixel (tileMap (s.ppu.lcdc.getLsbD 3)) ((x + s.ppu.scx.toNat) % 256) ((y + s.ppu.scy.toNat) % 256)

/-- `(P >> 2k) & 0x03` (R1117). -/
def shade (palette : Byte) (k : BitVec 2) : BitVec 2 := palette.extractLsb' (2 * k.toNat) 2

/-- The background or window shade: 0 when LCDC[0] = 0 (R1112, R1117). -/
def bgShade (p : Ppu) (k : BitVec 2) : BitVec 2 := if p.lcdc.getLsbD 0 then shade p.bgp k else 0

/-- An object entry of OAM (R1115). -/
structure Obj where
  y : Byte
  x : Byte
  tile : Byte
  attr : Byte
deriving DecidableEq, Repr

/-- OAM entry `i` (R1115). -/
def State.object (s : State) (i : Nat) : Obj where
  y := s.oamByte (4 * i)
  x := s.oamByte (4 * i + 1)
  tile := s.oamByte (4 * i + 2)
  attr := s.oamByte (4 * i + 3)

/-- The object height, 8 or 16 (R1115). -/
def objHeight (p : Ppu) : Nat := if p.lcdc.getLsbD 2 then 16 else 8

/-- Y - 16 ≤ y < Y - 16 + h (R1116 a). -/
def Obj.onLine (o : Obj) (h y : Nat) : Bool := o.y.toNat ≤ y + 16 && y + 16 < o.y.toNat + h

/-- X - 8 ≤ x < X (R1116 c). -/
def Obj.covers (o : Obj) (x : Nat) : Bool := o.x.toNat ≤ x + 8 && x < o.x.toNat

/-- The objects selected on line `y`: the first SPRITES_PER_LINE on the line in OAM order (R1116 a). -/
def State.lineObjects (s : State) (y : Nat) : List Obj :=
  (((List.range 40).map s.object).filter (fun o => o.onLine (objHeight s.ppu) y)).take
    s.launch.params.spritesPerLine

/-- The object's colour index at column `x` of line `y`, both inside the object (R1115, R1116 c). -/
def State.objPixel (s : State) (o : Obj) (y x : Nat) : BitVec 2 :=
  let h := objHeight s.ppu
  let r0 := y + 16 - o.y.toNat
  let r := if o.attr.getLsbD 6 then h - 1 - r0 else r0
  let c0 := x + 8 - o.x.toNat
  let c := if o.attr.getLsbD 5 then 7 - c0 else c0
  let tile := if h = 16 then (if 8 ≤ r then o.tile ||| 0x01 else o.tile &&& 0xFE) else o.tile
  let base := 16 * tile.toNat + 2 * (r % 8)
  colourIndex (s.vramByte base) (s.vramByte (base + 1)) c

/-- The candidate with the smallest X, the earlier one in OAM order on equal X (R1116 c). -/
def bestObject : List Obj → Option Obj
  | [] => none
  | o :: rest =>
    match bestObject rest with
    | none => some o
    | some p => if p.x.toNat < o.x.toNat then some p else some o

/-- The object drawn over column `x`, before priority: none when LCDC[1] = 0 (R1116 b, c). -/
def State.topObject (s : State) (objs : List Obj) (y x : Nat) : Option Obj :=
  if s.ppu.lcdc.getLsbD 1 then
    bestObject (objs.filter (fun o => o.covers x && s.objPixel o y x != 0))
  else none

/-- The shade of column `x` of line `y` (R1116 d, R1117). -/
def State.pixelShade (s : State) (objs : List Obj) (y x : Nat) : BitVec 2 :=
  let bgi := s.bgIndex y x
  match s.topObject objs y x with
  | none => bgShade s.ppu bgi
  | some o =>
    if o.attr.getLsbD 7 && bgi != 0 then bgShade s.ppu bgi
    else shade (if o.attr.getLsbD 4 then s.ppu.obp1 else s.ppu.obp0) (s.objPixel o y x)

/-- The 160 shades of line `y`. -/
def State.lineShades (s : State) (y : Nat) : List (BitVec 2) :=
  (List.range 160).map (s.pixelShade (s.lineObjects y) y)

/-- `win_line` after line `y`: one more when the window covered at least one column (R1114). -/
def nextWinLine (p : Ppu) (y : Nat) : Nat :=
  if (List.range 160).any (windowCovers p y) then p.winLine + 1 else p.winLine

/-- `ComposeLine(y)` (R1110, R1114). -/
def State.composeLine (s : State) (y : Nat) : State :=
  { s with ppu := { s.ppu with
      framebuffer := s.ppu.framebuffer.set y (s.lineShades y)
      winLine := nextWinLine s.ppu y } }

end Sys2Proof.Machine
end

