-- ==== Sys2Proof/Machine/Ppu.lean ====
section
/-! DEFINITION. PPU timing, STAT interrupts and the LCD switch (60_exceptions.md R1100-R1107, R1118). -/

namespace Sys2Proof.Machine

/-- The mode number STAT reports (10_state.md R139). -/
def PpuMode.code : PpuMode → BitVec 2
  | .hblank => 0 | .vblank => 1 | .oamScan => 2 | .pixelTransfer => 3

/-- LCDC[7] = 1. -/
def State.lcdOn (s : State) : Bool := s.ppu.lcdc.getLsbD 7

/-- The STAT enable of entering a mode; none for mode 3 (R139, R1102). -/
def modeIrqEnabled (enables : BitVec 4) : PpuMode → Bool
  | .hblank => enables.getLsbD 0
  | .vblank => enables.getLsbD 1
  | .oamScan => enables.getLsbD 2
  | .pixelTransfer => false

/-- The LY = LYC source of `stat_line()`: STAT[6] and `stat_coincidence` (R1107). -/
def State.lycSource (s : State) : Bool := s.ppu.statEnables.getLsbD 3 && s.ppu.statCoincidence

/-- `stat_line()` (R1107), 0 while the LCD is off (log 14). -/
def State.statLine (s : State) : Bool :=
  s.lcdOn && (modeIrqEnabled s.ppu.statEnables s.ppu.mode || s.lycSource)

/-- STAT_IRQ_MODEL = line: request on a rising edge of `stat_line()` between two states (R1107). -/
def State.statEdge (before after : State) : State :=
  if after.launch.params.statIrqModel = .line ∧ before.statLine = false ∧ after.statLine = true then
    after.request .stat
  else after

/-- `SetMode(m)` (R1102). -/
def State.setMode (s : State) (m : PpuMode) : State :=
  let s1 := { s with ppu := { s.ppu with mode := m } }
  if s.launch.params.statIrqModel = .events ∧ modeIrqEnabled s.ppu.statEnables m = true then
    s1.request .stat
  else s1

/-- `LycCompare()` (R1106). -/
def State.lycCompare (s : State) : State :=
  if s.lcdOn then
    let c := decide (s.ppu.ly = s.ppu.lyc)
    let s1 := { s with ppu := { s.ppu with statCoincidence := c } }
    if c = true ∧ s.ppu.statCoincidence = false ∧ s.ppu.statEnables.getLsbD 3 = true
        ∧ s.launch.params.statIrqModel = .events then
      s1.request .stat
    else s1
  else s

/-- `EnterVblank()` (R1103). -/
def State.enterVblank (s : State) : State :=
  let s1 := (s.setMode .vblank).request .vblank
  { s1 with ppu := { s1.ppu with frameComplete := true, lastFrame := s1.ppu.framebuffer, winLine := 0 } }

/-- The line counter after a line (R1101). -/
def nextLy (ly : Byte) : Byte := BitVec.ofNat 8 ((ly.toNat + 1) % 154)

/-- The end of a line, `dot` having reached 456 (R1101). -/
def State.endLine (s : State) : State :=
  let s1 := { s with ppu := { s.ppu with dot := 0 } }
  let s2 := if s.ppu.ly.toNat < 144 then s1.composeLine s.ppu.ly.toNat else s1
  let s3 := { s2 with ppu := { s2.ppu with ly := nextLy s.ppu.ly } }
  let s4 :=
    if s3.ppu.ly.toNat = 144 then s3.enterVblank
    else if s3.ppu.ly.toNat < 144 then s3.setMode .oamScan
    else s3
  s4.lycCompare

/-- `PpuTick()` with the LCD on (R1101). -/
def State.ppuAdvance (s : State) : State :=
  let s1 := { s with ppu := { s.ppu with dot := s.ppu.dot + 1 } }
  let s2 := if s1.ppu.ly.toNat < 144 ∧ s1.ppu.dot = 80 then s1.setMode .pixelTransfer else s1
  let s3 :=
    if s2.ppu.ly.toNat < 144 ∧ s2.ppu.dot = 80 + s2.launch.params.mode3T then s2.setMode .hblank else s2
  if s3.ppu.dot = 456 then s3.endLine else s3

/-- `PpuTick()`, one T-cycle; nothing while the LCD is off (R1101, R1107, R1118). -/
def State.ppuTick (s : State) : State :=
  if s.lcdOn then State.statEdge s s.ppuAdvance else s

/-- What LcdcWrite does when the LCD is switched: line 0, dot 0, the given mode, window line 0 (R1118). -/
def State.restartLine (s : State) (m : PpuMode) : State :=
  { s with ppu := { s.ppu with ly := 0, dot := 0, mode := m, winLine := 0 } }

/-- STAT_IRQ_MODEL = line, the LCD just switched on: entering mode 2 makes no request (R1118), so only the LY = LYC source
can raise the line (log 14). -/
def State.switchOnEdge (s : State) : State :=
  if s.launch.params.statIrqModel = .line ∧ s.lycSource = true then s.request .stat else s

/-- `LcdcWrite(v)` (R1118). -/
def State.lcdcWrite (s : State) (v : Byte) : State :=
  let s1 := { s with ppu := { s.ppu with lcdc := v } }
  if s.lcdOn = true ∧ v.getLsbD 7 = false then s1.restartLine .hblank
  else if s.lcdOn = false ∧ v.getLsbD 7 = true then (s1.restartLine .oamScan).lycCompare.switchOnEdge
  else State.statEdge s s1

/-- A write to STAT stores bits 6-3 (10_state.md R139). -/
def State.statWrite (s : State) (v : Byte) : State :=
  State.statEdge s { s with ppu := { s.ppu with statEnables := v.extractLsb' 3 4 } }

/-- A write to LYC stores it and compares (20_memory.md R213). -/
def State.lycWrite (s : State) (v : Byte) : State :=
  State.statEdge s (State.lycCompare { s with ppu := { s.ppu with lyc := v } })

end Sys2Proof.Machine
end

