-- ==== Sys2Proof/Machine/Timer.lean ====
section
/-! DEFINITION. The timer (60_exceptions.md R1060-R1064). -/

namespace Sys2Proof.Machine

/-- The `div_counter` bit that TAC[1:0] selects (R1060). -/
def timerBit (sel : BitVec 2) : Nat :=
  if sel = 0b00#2 then 9 else if sel = 0b01#2 then 3 else if sel = 0b10#2 then 5 else 7

/-- `timer_signal()` (R1060). -/
def timerSignal (t : Timer) : Bool :=
  t.tac.getLsbD 2 && t.divCounter.getLsbD (timerBit (t.tac.extractLsb' 0 2))

/-- `IncTima()`: count, or reload from TMA and request the Timer interrupt (R1062). -/
def State.incTima (s : State) : State :=
  if s.timer.tima = 0xFF then
    State.request { s with timer := { s.timer with tima := s.timer.tma } } .timer
  else { s with timer := { s.timer with tima := s.timer.tima + 1 } }

/-- `DivWrite()`: any write to 0xFF04 (R1061). -/
def State.divWrite (s : State) : State :=
  let s1 := { s with timer := { s.timer with divCounter := 0 } }
  if timerSignal s.timer then s1.incTima else s1

/-- `TacWrite(v)` (R1063). -/
def State.tacWrite (s : State) (v : BitVec 3) : State :=
  let s1 := { s with timer := { s.timer with tac := v } }
  if timerSignal s.timer && !timerSignal s1.timer then s1.incTima else s1

/-- `TimerTick()`, one T-cycle (R1062). -/
def State.timerTick (s : State) : State :=
  let s1 := { s with timer := { s.timer with divCounter := s.timer.divCounter + 1 } }
  if timerSignal s.timer && !timerSignal s1.timer then s1.incTima else s1

end Sys2Proof.Machine
end

