-- ==== Sys2Proof/Machine/Ops.lean ====
section
/-! DEFINITION. The named operations over memory and registers: the bus (20_memory.md R201-R215), OAM DMA, registers, the stack,
taking an interrupt and returning from one, DecodeError, and the devices' advance. -/

namespace Sys2Proof.Machine

/-- How a meaning and a step end. -/
abbrev Out := Host.Outcome State Fault Refusal

/-! ## I/O registers -/

/-- The I/O registers of 0xFF00-0xFF7F, the audio range, and the unmapped addresses (10_state.md R130-R152). -/
inductive IoReg where
  | p1 | sb | sc | div | tima | tma | tac | iflag | audio
  | lcdc | stat | scy | scx | ly | lyc | dma | bgp | obp0 | obp1 | wy | wx | unmapped
deriving DecidableEq, Repr

/-- The register at an address of 0xFF00-0xFF7F (R212, R213). -/
def ioReg (a : Word) : IoReg :=
  if a = 0xFF00#16 then .p1
  else if a = 0xFF01#16 then .sb
  else if a = 0xFF02#16 then .sc
  else if a = 0xFF04#16 then .div
  else if a = 0xFF05#16 then .tima
  else if a = 0xFF06#16 then .tma
  else if a = 0xFF07#16 then .tac
  else if a = 0xFF0F#16 then .iflag
  else if 0xFF10 ≤ a.toNat ∧ a.toNat ≤ 0xFF3F then .audio
  else if a = 0xFF40#16 then .lcdc
  else if a = 0xFF41#16 then .stat
  else if a = 0xFF42#16 then .scy
  else if a = 0xFF43#16 then .scx
  else if a = 0xFF44#16 then .ly
  else if a = 0xFF45#16 then .lyc
  else if a = 0xFF46#16 then .dma
  else if a = 0xFF47#16 then .bgp
  else if a = 0xFF48#16 then .obp0
  else if a = 0xFF49#16 then .obp1
  else if a = 0xFF4A#16 then .wy
  else if a = 0xFF4B#16 then .wx
  else .unmapped

/-- The mode STAT reports: `mode`, or 0 while the LCD is off (R212, 60_exceptions.md R1118). -/
def State.modeReported (s : State) : BitVec 2 := if s.lcdOn then s.ppu.mode.code else 0

/-- `IoRead` of a register; the audio range gives the next draw (R212). -/
def State.ioRead (s : State) : IoReg → Byte
  | .p1 => 0b11#2 ++ s.joypad.select ++ joypadLines s.joypad
  | .sb => s.serial.sb
  | .sc => BitVec.ofBool s.serial.scStart ++ 0b111111#6 ++ BitVec.ofBool s.serial.scClock
  | .div => s.timer.divCounter.extractLsb' 8 8
  | .tima => s.timer.tima
  | .tma => s.timer.tma
  | .tac => 0b11111#5 ++ s.timer.tac
  | .iflag => 0b111#3 ++ s.intr.iflag
  | .audio => Config.audioRead s.draws
  | .lcdc => s.ppu.lcdc
  | .stat => 1#1 ++ s.ppu.statEnables ++ BitVec.ofBool s.ppu.statCoincidence ++ s.modeReported
  | .scy => s.ppu.scy
  | .scx => s.ppu.scx
  | .ly => if s.lcdOn then s.ppu.ly else 0x00
  | .lyc => s.ppu.lyc
  | .dma => s.dma
  | .bgp => s.ppu.bgp
  | .obp0 => s.ppu.obp0
  | .obp1 => s.ppu.obp1
  | .wy => s.ppu.wy
  | .wx => s.ppu.wx
  | .unmapped => fillByte

/-! ## Reading the bus -/

/-- A CPU read of VRAM gives 0xFF now (R206). -/
def State.vramReadBlocked (s : State) : Bool :=
  s.launch.params.vramReadBlock && s.lcdOn && s.ppu.mode == .pixelTransfer

/-- A CPU write of VRAM is ignored now (R206). -/
def State.vramWriteBlocked (s : State) : Bool := s.lcdOn && s.ppu.mode == .pixelTransfer

/-- CPU accesses to OAM are refused now (R210). -/
def State.oamBlocked (s : State) : Bool :=
  s.launch.params.oamBlock && s.lcdOn && (s.ppu.mode == .oamScan || s.ppu.mode == .pixelTransfer)

/-- The stored byte that an address names, blocking aside; the fill value where external RAM does not answer (R207). -/
def State.stored (s : State) (a : Word) : Byte :=
  match s.place a with
  | some p => Memory.read s.mem p
  | none => fillByte

/-- `BusRead(a)` (R201); with `blocking` false, VRAM and OAM are read whatever the PPU does, as OAM DMA does (R1090). -/
def State.busRead (s : State) (blocking : Bool) (a : Word) : Byte :=
  match region a with
  | .rom0 => s.romRead s.bank0 a.toNat
  | .romX => s.romRead s.bankX (a.toNat - 0x4000)
  | .vram => if blocking && s.vramReadBlocked then fillByte else s.stored a
  | .extRam => s.stored a
  | .wram => s.stored a
  | .echo => s.stored a
  | .oam => if blocking && s.oamBlocked then fillByte else s.stored a
  | .unused => fillByte
  | .io => s.ioRead (ioReg a)
  | .hram => s.stored a
  | .ie => s.intr.ie

/-- The byte a CPU read of an address gives: `MemRead(a, 1)` (R201). -/
def State.peek (s : State) (a : Word) : Byte := s.busRead true a

/-- The address is in the audio range, whose every read is a fresh draw (R151). -/
def isAudio (a : Word) : Bool := region a == .io && ioReg a == .audio

/-- The state after a CPU read: no read has a side effect (R212, R225); the model counts the audio draws (log 7). -/
def State.afterRead (s : State) (a : Word) : State :=
  if isAudio a then { s with draws := s.draws + 1 } else s

/-! ## Writing the bus -/

/-- Store a byte at a memory place. -/
def State.store (s : State) (p : Nat) (v : Byte) : State := { s with mem := Memory.write s.mem p v }

/-- Store a byte where an address points, when it names a place. -/
def State.storeAt (s : State) (a : Word) (v : Byte) : State :=
  match s.place a with
  | some p => s.store p v
  | none => s

/-- Byte `k` of an OAM DMA from page `page` (60_exceptions.md R1090). -/
def State.oamDmaByte (page : Byte) (s : State) (k : Nat) : State :=
  if 0xFE00 ≤ page.toNat * 0x100 + k then
    State.store { s with draws := s.draws + 1 } (0xFE00 + k) (Config.dmaHighSrc s.draws)
  else s.store (0xFE00 + k) (s.busRead false (BitVec.ofNat 16 (page.toNat * 0x100 + k)))

/-- `OamDma(v)`: 160 bytes from `v << 8` to OAM, at once, whatever the PPU does (R1090). -/
def State.oamDma (s : State) (v : Byte) : State := (List.range 160).foldl (State.oamDmaByte v) s

/-- `IoWrite` to a register (R213). -/
def State.ioWrite (s : State) (r : IoReg) (v : Byte) : State :=
  match r with
  | .p1 => s.p1Write v
  | .sb => { s with serial := { s.serial with sb := v } }
  | .sc => { s with serial := { s.serial with scStart := v.getLsbD 7, scClock := v.getLsbD 0 } }
  | .div => s.divWrite
  | .tima => { s with timer := { s.timer with tima := v } }
  | .tma => { s with timer := { s.timer with tma := v } }
  | .tac => s.tacWrite (v.extractLsb' 0 3)
  | .iflag => { s with intr := { s.intr with iflag := v.extractLsb' 0 5 } }
  | .audio => s
  | .lcdc => s.lcdcWrite v
  | .stat => s.statWrite v
  | .scy => { s with ppu := { s.ppu with scy := v } }
  | .scx => { s with ppu := { s.ppu with scx := v } }
  | .ly => s
  | .lyc => s.lycWrite v
  | .dma => State.oamDma { s with dma := v } v
  | .bgp => { s with ppu := { s.ppu with bgp := v } }
  | .obp0 => { s with ppu := { s.ppu with obp0 := v } }
  | .obp1 => { s with ppu := { s.ppu with obp1 := v } }
  | .wy => { s with ppu := { s.ppu with wy := v } }
  | .wx => { s with ppu := { s.ppu with wx := v } }
  | .unmapped => s

/-- `BusWrite(a, v)`, which is `MemWrite(a, 1, v)` (R202). -/
def State.busWrite (s : State) (a : Word) (v : Byte) : State :=
  match region a with
  | .rom0 => s.mapperWrite a v
  | .romX => s.mapperWrite a v
  | .vram => if s.vramWriteBlocked then s else s.storeAt a v
  | .extRam => s.storeAt a v
  | .wram => s.storeAt a v
  | .echo => s.storeAt a v
  | .oam => if s.oamBlocked then s else s.storeAt a v
  | .unused => s
  | .io => s.ioWrite (ioReg a) v
  | .hram => s.storeAt a v
  | .ie => { s with intr := { s.intr with ie := v } }

/-! ## Registers -/

/-- F as a byte, low nibble 0 (10_state.md R106, R110). -/
def Flags.toByte (f : Flags) : Byte :=
  BitVec.ofBool f.z ++ BitVec.ofBool f.n ++ BitVec.ofBool f.h ++ BitVec.ofBool f.c ++ 0#4

/-- A write of a byte to F keeps bits 7-4 (R106). -/
def Flags.ofByte (v : Byte) : Flags where
  z := v.getLsbD 7
  n := v.getLsbD 6
  h := v.getLsbD 5
  c := v.getLsbD 4

/-- `x[r]` for an 8-bit register (00_scope.md R10). -/
def State.getR (s : State) : R8 → Byte
  | .b => s.cpu.b
  | .c => s.cpu.c
  | .d => s.cpu.d
  | .e => s.cpu.e
  | .h => s.cpu.h
  | .l => s.cpu.l
  | .a => s.cpu.a

/-- `x[r] <- v` for an 8-bit register (R10). -/
def State.setR (s : State) (r : R8) (v : Byte) : State :=
  match r with
  | .b => { s with cpu := { s.cpu with b := v } }
  | .c => { s with cpu := { s.cpu with c := v } }
  | .d => { s with cpu := { s.cpu with d := v } }
  | .e => { s with cpu := { s.cpu with e := v } }
  | .h => { s with cpu := { s.cpu with h := v } }
  | .l => { s with cpu := { s.cpu with l := v } }
  | .a => { s with cpu := { s.cpu with a := v } }

/-- `x[BC]` (10_state.md R101). -/
def State.bc (s : State) : Word := cat s.cpu.b s.cpu.c

/-- `x[DE]` (R101). -/
def State.de (s : State) : Word := cat s.cpu.d s.cpu.e

/-- `x[HL]` (R101). -/
def State.hl (s : State) : Word := cat s.cpu.h s.cpu.l

/-- `x[AF]` (R101, R106). -/
def State.af (s : State) : Word := cat s.cpu.a s.cpu.f.toByte

/-- `x[BC] <- w` (R101). -/
def State.setBc (s : State) (w : Word) : State := { s with cpu := { s.cpu with b := hi w, c := lo w } }

/-- `x[DE] <- w` (R101). -/
def State.setDe (s : State) (w : Word) : State := { s with cpu := { s.cpu with d := hi w, e := lo w } }

/-- `x[HL] <- w` (R101). -/
def State.setHl (s : State) (w : Word) : State := { s with cpu := { s.cpu with h := hi w, l := lo w } }

/-- `x[AF] <- w`: F keeps bits 7-4 of the low byte (R106). -/
def State.setAf (s : State) (w : Word) : State :=
  { s with cpu := { s.cpu with a := hi w, f := Flags.ofByte (lo w) } }

/-- `x[SP] <- w` (R102). -/
def State.setSp (s : State) (w : Word) : State := { s with cpu := { s.cpu with sp := w } }

/-- `pc <- w` (R10). -/
def State.setPc (s : State) (w : Word) : State := { s with cpu := { s.cpu with pc := w } }

/-- Write all four flags. -/
def State.setFlags (s : State) (f : Flags) : State := { s with cpu := { s.cpu with f := f } }

/-- Write IME (R120). -/
def State.setIme (s : State) (b : Bool) : State := { s with cpu := { s.cpu with ime := b } }

/-- Write `ei_pending` (R121). -/
def State.setEiPending (s : State) (b : Bool) : State := { s with cpu := { s.cpu with eiPending := b } }

/-- Write `run` (R122). -/
def State.setRun (s : State) (r : RunState) : State := { s with cpu := { s.cpu with run := r } }

/-- Write `halt_bug` (R123). -/
def State.setHaltBug (s : State) (b : Bool) : State := { s with cpu := { s.cpu with haltBug := b } }

/-- Add T-cycles to the cycle counter (R124). -/
def State.tick (s : State) (t : Nat) : State := { s with cycles := s.cycles + t }

/-- `x[rr]` of R311. -/
def State.getRp (s : State) : Rp → Word
  | .bc => s.bc
  | .de => s.de
  | .hl => s.hl
  | .sp => s.cpu.sp

/-- `x[rr] <- w` of R311. -/
def State.setRp (s : State) (r : Rp) (w : Word) : State :=
  match r with
  | .bc => s.setBc w
  | .de => s.setDe w
  | .hl => s.setHl w
  | .sp => s.setSp w

/-- `x[rr]` of R312. -/
def State.getRp2 (s : State) : Rp2 → Word
  | .bc => s.bc
  | .de => s.de
  | .hl => s.hl
  | .af => s.af

/-- `x[rr] <- w` of R312. -/
def State.setRp2 (s : State) (r : Rp2) (w : Word) : State :=
  match r with
  | .bc => s.setBc w
  | .de => s.setDe w
  | .hl => s.setHl w
  | .af => s.setAf w

/-! ## The stack -/

/-- `Push16(w)`: high byte at SP - 1, then low byte at SP - 2 (00_scope.md R13). -/
def State.push16 (s : State) (w : Word) : State :=
  let s1 := s.setSp (s.cpu.sp - 1)
  let s2 := s1.busWrite s1.cpu.sp (hi w)
  let s3 := s2.setSp (s2.cpu.sp - 1)
  s3.busWrite s3.cpu.sp (lo w)

/-- The value of `Pop16()`: low byte at SP, high byte at SP + 1 (R13). -/
def State.popValue (s : State) : Word :=
  cat ((s.afterRead s.cpu.sp).peek (s.cpu.sp + 1)) (s.peek s.cpu.sp)

/-- The state after `Pop16()` (R13). -/
def State.afterPop (s : State) : State :=
  ((s.afterRead s.cpu.sp).afterRead (s.cpu.sp + 1)).setSp (s.cpu.sp + 2)

/-! ## Exceptions -/

/-- The address `Dispatch()` pushes: PC, or the HALT's own address when the HALT-bug latch is set (60_exceptions.md R1020). -/
def State.returnAddress (s : State) : Word := if s.cpu.haltBug then s.cpu.pc - 1 else s.cpu.pc

/-- `Dispatch()`: take the first pending interrupt, 20 T-cycles (R1020-R1024). -/
def State.takeInterrupt (s : State) : State :=
  let i := firstPending s.pending
  let s1 := (((s.acknowledge i).setIme false).setEiPending false).setHaltBug false
  ((s1.push16 s.returnAddress).setPc i.vector).tick 20

/-- The return from an interrupt: `pc <- Pop16(); IME <- 1` (44_control.md R810). -/
def State.returnFromInterrupt (s : State) : State := (s.afterPop.setPc s.popValue).setIme true

/-- `raise DecodeError(addr, op)`, addr being where the opcode was fetched from: `run <- FAULTED`, `fault <- (addr, op)`,
PC = addr (45_system.md R905, R1050). The step undoes the rest. -/
def State.raiseDecodeError (s : State) (op : Byte) : State :=
  { s with cpu := { s.cpu with
      run := .faulted
      fault := some { addr := s.cpu.opAddr, opcode := op }
      pc := s.cpu.opAddr } }

/-! ## Device time -/

/-- One T-cycle of the devices (R1002). -/
def State.deviceTick (s : State) : State := s.timerTick.ppuTick

/-- `AdvanceDevices(t)` (R1002). -/
def State.advanceDevices : Nat → State → State
  | 0, s => s
  | t + 1, s => State.advanceDevices t s.deviceTick

end Sys2Proof.Machine
end

