-- ==== Sys2Proof/Machine/Flags.lean ====
section
/-! DEFINITION. Every result and flag computation of 41_alu8.md, 42_alu16.md and 43_rotate_shift_bit.md, as functions of the
operands and the old flags. -/

namespace Sys2Proof.Machine

/-- An 8-bit result and the flags after it. -/
structure Res8 where
  value : Byte
  flags : Flags
deriving DecidableEq, Repr

/-- A 16-bit result and the flags after it. -/
structure Res16 where
  value : Word
  flags : Flags
deriving DecidableEq, Repr

/-- `add8(a, b, c)` (41_alu8.md R501). -/
def add8 (a b : Byte) (c : Bool) : Res8 :=
  let sum := a.toNat + b.toNat + c.toNat
  let res : Byte := BitVec.ofNat 8 sum
  { value := res
    flags := { z := decide (res = 0), n := false
               h := decide (a.toNat % 16 + b.toNat % 16 + c.toNat > 0x0F), c := decide (sum > 0xFF) } }

/-- `sub8(a, b, c)` (R502). -/
def sub8 (a b : Byte) (c : Bool) : Res8 :=
  let diff : Int := a.toNat - b.toNat - c.toNat
  let res : Byte := BitVec.ofInt 8 diff
  { value := res
    flags := { z := decide (res = 0), n := true
               h := decide ((a.toNat % 16 : Int) - (b.toNat % 16 : Nat) - c.toNat < 0), c := decide (diff < 0) } }

/-- A logic result: Z from it, N 0, C 0, H as given (R514-R516). -/
def logic8 (res : Byte) (h : Bool) : Res8 :=
  { value := res, flags := { z := decide (res = 0), n := false, h := h, c := false } }

/-- The ALU operations of R510-R517; CP's result is not stored. -/
def aluCompute (op : Alu) (a v : Byte) (f : Flags) : Res8 :=
  match op with
  | .add => add8 a v false
  | .adc => add8 a v f.c
  | .sub => sub8 a v false
  | .sbc => sub8 a v f.c
  | .and => logic8 (a &&& v) true
  | .xor => logic8 (a ^^^ v) false
  | .or => logic8 (a ||| v) false
  | .cp => sub8 a v false

/-- INC of a byte; C unchanged (R518, R519). -/
def inc8 (v : Byte) (f : Flags) : Res8 :=
  let res := v + 1
  { value := res, flags := { f with z := decide (res = 0), n := false, h := decide (v &&& 0x0F = 0x0F) } }

/-- DEC of a byte; C unchanged (R520, R521). -/
def dec8 (v : Byte) (f : Flags) : Res8 :=
  let res := v - 1
  { value := res, flags := { f with z := decide (res = 0), n := true, h := decide (v &&& 0x0F = 0x00) } }

/-- DAA adds or takes away 0x60 (R522). -/
def daaHigh (a : Byte) (f : Flags) : Bool := if f.n then f.c else f.c || decide (a.toNat > 0x99)

/-- DAA adds or takes away 0x06 (R522). -/
def daaLow (a : Byte) (f : Flags) : Bool := if f.n then f.h else f.h || decide ((a &&& 0x0F).toNat > 0x09)

/-- DAA; N unchanged (R522). -/
def daa (a : Byte) (f : Flags) : Res8 :=
  let adj : Byte := (if daaHigh a f then 0x60 else 0x00) ||| (if daaLow a f then 0x06 else 0x00)
  let res := if f.n then a - adj else a + adj
  { value := res, flags := { z := decide (res = 0), n := f.n, h := false, c := daaHigh a f } }

/-- CPL; Z and C unchanged (R523). -/
def cpl (a : Byte) (f : Flags) : Res8 := { value := ~~~a, flags := { f with n := true, h := true } }

/-- SCF; Z unchanged (R524). -/
def scf (f : Flags) : Flags := { f with n := false, h := false, c := true }

/-- CCF; Z unchanged (R525). -/
def ccf (f : Flags) : Flags := { f with n := false, h := false, c := !f.c }

/-- ADD HL,rr; Z unchanged (42_alu16.md R601). -/
def add16 (a b : Word) (f : Flags) : Res16 :=
  let sum := a.toNat + b.toNat
  { value := BitVec.ofNat 16 sum
    flags := { f with n := false, h := decide (a.toNat % 0x1000 + b.toNat % 0x1000 > 0x0FFF)
                      c := decide (sum > 0xFFFF) } }

/-- `spadd(sp, e)`: a signed displacement, with the flags of an unsigned add to the low byte (R604). -/
def spAdd (sp : Word) (e : Byte) : Res16 :=
  { value := sp + sext16 e
    flags := { z := false, n := false, h := decide (sp.toNat % 16 + e.toNat % 16 > 0x0F)
               c := decide (sp.toNat % 256 + e.toNat > 0xFF) } }

/-- The result bits of the rotates and shifts (43_rotate_shift_bit.md R711-R718), `c` being the carry before. -/
def rotResult (op : Rot) (v : Byte) (c : Bool) : Byte :=
  match op with
  | .rlc => v.extractLsb' 0 7 ++ v.extractLsb' 7 1
  | .rrc => v.extractLsb' 0 1 ++ v.extractLsb' 1 7
  | .rl => v.extractLsb' 0 7 ++ BitVec.ofBool c
  | .rr => BitVec.ofBool c ++ v.extractLsb' 1 7
  | .sla => v.extractLsb' 0 7 ++ 0#1
  | .sra => v.extractLsb' 7 1 ++ v.extractLsb' 1 7
  | .swap => v.extractLsb' 0 4 ++ v.extractLsb' 4 4
  | .srl => 0#1 ++ v.extractLsb' 1 7

/-- The carry after a rotate or shift: the bit shifted out; 0 for SWAP (R711-R718). -/
def rotCarry (op : Rot) (v : Byte) : Bool :=
  match op with
  | .rlc | .rl | .sla => v.getLsbD 7
  | .rrc | .rr | .sra | .srl => v.getLsbD 0
  | .swap => false

/-- A CB rotate or shift: Z from the result (R711-R718). -/
def rotCompute (op : Rot) (v : Byte) (f : Flags) : Res8 :=
  let res := rotResult op v f.c
  { value := res, flags := { z := decide (res = 0), n := false, h := false, c := rotCarry op v } }

/-- An accumulator rotate: Z always 0 (R700-R704). -/
def rotComputeAcc (op : Rot) (v : Byte) (f : Flags) : Res8 :=
  { value := rotResult op v f.c, flags := { z := false, n := false, h := false, c := rotCarry op v } }

/-- BIT b: Z is the complement of the bit; C unchanged (R719). -/
def bitTest (b : Oct) (v : Byte) (f : Flags) : Flags :=
  { f with z := !v.getLsbD b.toNat, n := false, h := true }

/-- RES b (R720). -/
def bitReset (b : Oct) (v : Byte) : Byte := v &&& ~~~(1#8 <<< b.toNat)

/-- SET b (R721). -/
def bitSet (b : Oct) (v : Byte) : Byte := v ||| (1#8 <<< b.toNat)

/-- `cond(cc)` (44_control.md R800). -/
def condHolds (cc : Cond) (f : Flags) : Bool :=
  match cc with
  | .nz => !f.z
  | .z => f.z
  | .nc => !f.c
  | .c => f.c

end Sys2Proof.Machine
end

