-- ==== Sys2Proof/Machine/Operands.lean ====
section
/-! DEFINITION. Every operand form, and the shared operations that the meanings are made of. Each takes the state after the
instruction's bytes are fetched, PC past it (30_encoding.md R302), and adds the instruction's T-cycles (70_reset_and_hazards.md R1230). -/

namespace Sys2Proof.Machine

/-- The ALU source `s` of 41_alu8.md R500, which is also the CB operand of 43_rotate_shift_bit.md R710 (register or `(HL)`). -/
inductive Src where
  | reg (r : R8)
  | hl
  | imm (n : Byte)
deriving DecidableEq, Repr

/-- The operand's value: a register, the byte at HL, or the immediate (R500). -/
def Src.value (o : Src) (s : State) : Byte :=
  match o with
  | .reg r => s.getR r
  | .hl => s.peek s.hl
  | .imm n => n

/-- The state after the operand is read. -/
def Src.after (o : Src) (s : State) : State :=
  match o with
  | .reg _ => s
  | .hl => s.afterRead s.hl
  | .imm _ => s

/-- The cost of an ALU instruction with this source (R500). -/
def Src.cost : Src → Nat
  | .reg _ => 4
  | .hl => 8
  | .imm _ => 8

/-! ## Loads and stores -/

/-- `x[r] <- x[r']` (40_load.md R401). -/
def ldRegReg (r r' : R8) (s : State) : Out := .next ((s.setR r (s.getR r')).tick 4)

/-- `x[r] <- n` (R402). -/
def ldRegImm (r : R8) (n : Byte) (s : State) : Out := .next ((s.setR r n).tick 8)

/-- `x[r] <- MemRead(addr, 1)` in `t` T-cycles (R403, R406, R407, R410, R412, R414). -/
def ldRegMem (r : R8) (addr : Word) (t : Nat) (s : State) : Out :=
  .next (((s.afterRead addr).setR r (s.peek addr)).tick t)

/-- `MemWrite(addr, 1, v)` in `t` T-cycles (R404, R405, R408, R409, R411, R413, R415). -/
def ldMemVal (addr : Word) (v : Byte) (t : Nat) (s : State) : Out := .next ((s.busWrite addr v).tick t)

/-- `MemWrite(nn, 1, lo(x[SP])); MemWrite(nn + 1, 1, hi(x[SP]))` (R421). -/
def ldMemSp (nn : Word) (s : State) : Out :=
  .next (((s.busWrite nn (lo s.cpu.sp)).busWrite (nn + 1) (hi s.cpu.sp)).tick 20)

/-- `x[A] <- MemRead(x[HL], 1); x[HL] <- x[HL] + step` (R416, R418). -/
def ldAHlStep (step : Word) (s : State) : Out :=
  .next ((((s.afterRead s.hl).setR .a (s.peek s.hl)).setHl (s.hl + step)).tick 8)

/-- `MemWrite(x[HL], 1, x[A]); x[HL] <- x[HL] + step` (R417, R419). -/
def ldHlStepA (step : Word) (s : State) : Out :=
  .next (((s.busWrite s.hl s.cpu.a).setHl (s.hl + step)).tick 8)

/-- `x[rr] <- nn` (R420). -/
def ldPairImm (r : Rp) (nn : Word) (s : State) : Out := .next ((s.setRp r nn).tick 12)

/-- `PUSH rr` (R423). -/
def pushPair (r : Rp2) (s : State) : Out := .next ((s.push16 (s.getRp2 r)).tick 16)

/-- `POP rr` (R424, R425). -/
def popPair (r : Rp2) (s : State) : Out := .next ((s.afterPop.setRp2 r s.popValue).tick 12)

/-! ## 8-bit arithmetic -/

/-- The ALU with A and a source; CP stores no result (41_alu8.md R510-R517). -/
def aluOp (op : Alu) (o : Src) (s : State) : Out :=
  let r := aluCompute op s.cpu.a (o.value s) s.cpu.f
  let s1 := o.after s
  let s2 := if op = .cp then s1 else s1.setR .a r.value
  .next ((s2.setFlags r.flags).tick o.cost)

/-- Change a register by a byte operation: INC, DEC and the CB rotates (R518, R520, 43_rotate_shift_bit.md R710). -/
def modifyReg (f : Byte → Flags → Res8) (r : R8) (t : Nat) (s : State) : Out :=
  let q := f (s.getR r) s.cpu.f
  .next (((s.setR r q.value).setFlags q.flags).tick t)

/-- Change the byte at HL by a byte operation, one read then one write (R519, R521, R710). -/
def modifyHl (f : Byte → Flags → Res8) (t : Nat) (s : State) : Out :=
  let q := f (s.peek s.hl) s.cpu.f
  .next ((((s.afterRead s.hl).busWrite s.hl q.value).setFlags q.flags).tick t)

/-- A byte operation that writes no flag. -/
def keepFlags (f : Byte → Byte) (v : Byte) (fl : Flags) : Res8 := { value := f v, flags := fl }

/-- Write the flags only. -/
def flagsOp (f : Flags → Flags) (s : State) : Out := .next ((s.setFlags (f s.cpu.f)).tick 4)

/-! ## 16-bit arithmetic -/

/-- `ADD HL,rr` (42_alu16.md R601). -/
def addHlPair (r : Rp) (s : State) : Out :=
  let q := add16 s.hl (s.getRp r) s.cpu.f
  .next (((s.setHl q.value).setFlags q.flags).tick 8)

/-- `x[rr] <- x[rr] + step`, no flag (R602, R603). -/
def stepPair (r : Rp) (step : Word) (s : State) : Out := .next ((s.setRp r (s.getRp r + step)).tick 8)

/-! ## Bit test -/

/-- `BIT b,s` (43_rotate_shift_bit.md R719). -/
def bitOp (b : Oct) (o : Src) (t : Nat) (s : State) : Out :=
  .next (((o.after s).setFlags (bitTest b (o.value s) s.cpu.f)).tick t)

/-! ## Control -/

/-- `pc <- target` when the condition holds; both costs (44_control.md R800-R805). -/
def jumpIf (taken : Bool) (target : Word) (t notTaken : Nat) (s : State) : Out :=
  .next (if taken then (s.setPc target).tick t else s.tick notTaken)

/-- `pc + sext_16(e)`, PC being past the instruction (R804). -/
def relTarget (e : Byte) (s : State) : Word := s.cpu.pc + sext16 e

/-- `Push16(pc); pc <- target` when the condition holds; both costs (R806, R807, R811). -/
def callIf (taken : Bool) (target : Word) (t notTaken : Nat) (s : State) : Out :=
  .next (if taken then ((s.push16 s.cpu.pc).setPc target).tick t else s.tick notTaken)

/-- `pc <- Pop16()` when the condition holds; both costs (R808, R809). -/
def retIf (taken : Bool) (t notTaken : Nat) (s : State) : Out :=
  .next (if taken then (s.afterPop.setPc s.popValue).tick t else s.tick notTaken)

/-! ## Illegal opcodes -/

/-- An illegal opcode: DecodeError, or a 4-cycle no-op when PERMISSIVE_ILLEGAL (45_system.md R905). -/
def illegalOp (op : Byte) (s : State) : Out :=
  .next (if s.launch.params.permissiveIllegal then s.tick 4 else s.raiseDecodeError op)

end Sys2Proof.Machine
end

