-- ==== Sys2Proof/Machine/Alu16.lean ====
section
/-! DEFINITION. 16-bit arithmetic (42_alu16.md R600-R606): one meaning for each instruction. -/

namespace Sys2Proof.Machine

/-- `INC BC` (R602). -/
def execIncBc (s : State) : Out := stepPair .bc 1 s

/-- `ADD HL,BC` (R601). -/
def execAddHlBc (s : State) : Out := addHlPair .bc s

/-- `DEC BC` (R603). -/
def execDecBc (s : State) : Out := stepPair .bc (-1) s

/-- `INC DE` (R602). -/
def execIncDe (s : State) : Out := stepPair .de 1 s

/-- `ADD HL,DE` (R601). -/
def execAddHlDe (s : State) : Out := addHlPair .de s

/-- `DEC DE` (R603). -/
def execDecDe (s : State) : Out := stepPair .de (-1) s

/-- `INC HL` (R602). -/
def execIncHl (s : State) : Out := stepPair .hl 1 s

/-- `ADD HL,HL` (R601). -/
def execAddHlHl (s : State) : Out := addHlPair .hl s

/-- `DEC HL` (R603). -/
def execDecHl (s : State) : Out := stepPair .hl (-1) s

/-- `INC SP` (R602). -/
def execIncSp (s : State) : Out := stepPair .sp 1 s

/-- `ADD HL,SP` (R601). -/
def execAddHlSp (s : State) : Out := addHlPair .sp s

/-- `DEC SP` (R603). -/
def execDecSp (s : State) : Out := stepPair .sp (-1) s

/-- `ADD SP,e8` (R605). -/
def execAddSpE8 (e : Byte) (s : State) : Out :=
  .next (((s.setSp (spAdd s.cpu.sp e).value).setFlags (spAdd s.cpu.sp e).flags).tick 16)

/-- `LD HL,SP+e8` (R606). -/
def execLdHlSpE8 (e : Byte) (s : State) : Out :=
  .next (((s.setHl (spAdd s.cpu.sp e).value).setFlags (spAdd s.cpu.sp e).flags).tick 12)

end Sys2Proof.Machine
end

