-- ==== Sys2Proof/Machine/Alu8.lean ====
section
/-! DEFINITION. 8-bit arithmetic and logic (41_alu8.md R500-R525): one meaning for each instruction. -/

namespace Sys2Proof.Machine

/-- `INC B` (R518). -/
def execIncB (s : State) : Out := modifyReg inc8 .b 4 s

/-- `DEC B` (R520). -/
def execDecB (s : State) : Out := modifyReg dec8 .b 4 s

/-- `INC C` (R518). -/
def execIncC (s : State) : Out := modifyReg inc8 .c 4 s

/-- `DEC C` (R520). -/
def execDecC (s : State) : Out := modifyReg dec8 .c 4 s

/-- `INC D` (R518). -/
def execIncD (s : State) : Out := modifyReg inc8 .d 4 s

/-- `DEC D` (R520). -/
def execDecD (s : State) : Out := modifyReg dec8 .d 4 s

/-- `INC E` (R518). -/
def execIncE (s : State) : Out := modifyReg inc8 .e 4 s

/-- `DEC E` (R520). -/
def execDecE (s : State) : Out := modifyReg dec8 .e 4 s

/-- `INC H` (R518). -/
def execIncH (s : State) : Out := modifyReg inc8 .h 4 s

/-- `DEC H` (R520). -/
def execDecH (s : State) : Out := modifyReg dec8 .h 4 s

/-- `DAA` (R522). -/
def execDaa (s : State) : Out := modifyReg daa .a 4 s

/-- `INC L` (R518). -/
def execIncL (s : State) : Out := modifyReg inc8 .l 4 s

/-- `DEC L` (R520). -/
def execDecL (s : State) : Out := modifyReg dec8 .l 4 s

/-- `CPL` (R523). -/
def execCplA (s : State) : Out := modifyReg cpl .a 4 s

/-- `INC (HL)` (R519). -/
def execIncIndHl (s : State) : Out := modifyHl inc8 12 s

/-- `DEC (HL)` (R521). -/
def execDecIndHl (s : State) : Out := modifyHl dec8 12 s

/-- `SCF` (R524). -/
def execScf (s : State) : Out := flagsOp scf s

/-- `INC A` (R518). -/
def execIncA (s : State) : Out := modifyReg inc8 .a 4 s

/-- `DEC A` (R520). -/
def execDecA (s : State) : Out := modifyReg dec8 .a 4 s

/-- `CCF` (R525). -/
def execCcf (s : State) : Out := flagsOp ccf s

/-- `ADD A,d8` (R510). -/
def execAddAD8 (n : Byte) (s : State) : Out := aluOp .add (.imm n) s

/-- `ADC A,d8` (R511). -/
def execAdcAD8 (n : Byte) (s : State) : Out := aluOp .adc (.imm n) s

/-- `SUB d8` (R512). -/
def execSubD8 (n : Byte) (s : State) : Out := aluOp .sub (.imm n) s

/-- `SBC A,d8` (R513). -/
def execSbcAD8 (n : Byte) (s : State) : Out := aluOp .sbc (.imm n) s

/-- `AND d8` (R514). -/
def execAndD8 (n : Byte) (s : State) : Out := aluOp .and (.imm n) s

/-- `XOR d8` (R515). -/
def execXorD8 (n : Byte) (s : State) : Out := aluOp .xor (.imm n) s

/-- `OR d8` (R516). -/
def execOrD8 (n : Byte) (s : State) : Out := aluOp .or (.imm n) s

/-- `CP d8` (R517). -/
def execCpD8 (n : Byte) (s : State) : Out := aluOp .cp (.imm n) s

/-- `ADD A,B` (R510). -/
def execAddAB (s : State) : Out := aluOp .add (.reg .b) s

/-- `ADD A,C` (R510). -/
def execAddAC (s : State) : Out := aluOp .add (.reg .c) s

/-- `ADD A,D` (R510). -/
def execAddAD (s : State) : Out := aluOp .add (.reg .d) s

/-- `ADD A,E` (R510). -/
def execAddAE (s : State) : Out := aluOp .add (.reg .e) s

/-- `ADD A,H` (R510). -/
def execAddAH (s : State) : Out := aluOp .add (.reg .h) s

/-- `ADD A,L` (R510). -/
def execAddAL (s : State) : Out := aluOp .add (.reg .l) s

/-- `ADD A,(HL)` (R510). -/
def execAddAIndHl (s : State) : Out := aluOp .add .hl s

/-- `ADD A,A` (R510). -/
def execAddAA (s : State) : Out := aluOp .add (.reg .a) s

/-- `ADC A,B` (R511). -/
def execAdcAB (s : State) : Out := aluOp .adc (.reg .b) s

/-- `ADC A,C` (R511). -/
def execAdcAC (s : State) : Out := aluOp .adc (.reg .c) s

/-- `ADC A,D` (R511). -/
def execAdcAD (s : State) : Out := aluOp .adc (.reg .d) s

/-- `ADC A,E` (R511). -/
def execAdcAE (s : State) : Out := aluOp .adc (.reg .e) s

/-- `ADC A,H` (R511). -/
def execAdcAH (s : State) : Out := aluOp .adc (.reg .h) s

/-- `ADC A,L` (R511). -/
def execAdcAL (s : State) : Out := aluOp .adc (.reg .l) s

/-- `ADC A,(HL)` (R511). -/
def execAdcAIndHl (s : State) : Out := aluOp .adc .hl s

/-- `ADC A,A` (R511). -/
def execAdcAA (s : State) : Out := aluOp .adc (.reg .a) s

/-- `SUB B` (R512). -/
def execSubB (s : State) : Out := aluOp .sub (.reg .b) s

/-- `SUB C` (R512). -/
def execSubC (s : State) : Out := aluOp .sub (.reg .c) s

/-- `SUB D` (R512). -/
def execSubD (s : State) : Out := aluOp .sub (.reg .d) s

/-- `SUB E` (R512). -/
def execSubE (s : State) : Out := aluOp .sub (.reg .e) s

/-- `SUB H` (R512). -/
def execSubH (s : State) : Out := aluOp .sub (.reg .h) s

/-- `SUB L` (R512). -/
def execSubL (s : State) : Out := aluOp .sub (.reg .l) s

/-- `SUB (HL)` (R512). -/
def execSubIndHl (s : State) : Out := aluOp .sub .hl s

/-- `SUB A` (R512). -/
def execSubA (s : State) : Out := aluOp .sub (.reg .a) s

/-- `SBC A,B` (R513). -/
def execSbcAB (s : State) : Out := aluOp .sbc (.reg .b) s

/-- `SBC A,C` (R513). -/
def execSbcAC (s : State) : Out := aluOp .sbc (.reg .c) s

/-- `SBC A,D` (R513). -/
def execSbcAD (s : State) : Out := aluOp .sbc (.reg .d) s

/-- `SBC A,E` (R513). -/
def execSbcAE (s : State) : Out := aluOp .sbc (.reg .e) s

/-- `SBC A,H` (R513). -/
def execSbcAH (s : State) : Out := aluOp .sbc (.reg .h) s

/-- `SBC A,L` (R513). -/
def execSbcAL (s : State) : Out := aluOp .sbc (.reg .l) s

/-- `SBC A,(HL)` (R513). -/
def execSbcAIndHl (s : State) : Out := aluOp .sbc .hl s

/-- `SBC A,A` (R513). -/
def execSbcAA (s : State) : Out := aluOp .sbc (.reg .a) s

/-- `AND B` (R514). -/
def execAndB (s : State) : Out := aluOp .and (.reg .b) s

/-- `AND C` (R514). -/
def execAndC (s : State) : Out := aluOp .and (.reg .c) s

/-- `AND D` (R514). -/
def execAndD (s : State) : Out := aluOp .and (.reg .d) s

/-- `AND E` (R514). -/
def execAndE (s : State) : Out := aluOp .and (.reg .e) s

/-- `AND H` (R514). -/
def execAndH (s : State) : Out := aluOp .and (.reg .h) s

/-- `AND L` (R514). -/
def execAndL (s : State) : Out := aluOp .and (.reg .l) s

/-- `AND (HL)` (R514). -/
def execAndIndHl (s : State) : Out := aluOp .and .hl s

/-- `AND A` (R514). -/
def execAndA (s : State) : Out := aluOp .and (.reg .a) s

/-- `XOR B` (R515). -/
def execXorB (s : State) : Out := aluOp .xor (.reg .b) s

/-- `XOR C` (R515). -/
def execXorC (s : State) : Out := aluOp .xor (.reg .c) s

/-- `XOR D` (R515). -/
def execXorD (s : State) : Out := aluOp .xor (.reg .d) s

/-- `XOR E` (R515). -/
def execXorE (s : State) : Out := aluOp .xor (.reg .e) s

/-- `XOR H` (R515). -/
def execXorH (s : State) : Out := aluOp .xor (.reg .h) s

/-- `XOR L` (R515). -/
def execXorL (s : State) : Out := aluOp .xor (.reg .l) s

/-- `XOR (HL)` (R515). -/
def execXorIndHl (s : State) : Out := aluOp .xor .hl s

/-- `XOR A` (R515). -/
def execXorA (s : State) : Out := aluOp .xor (.reg .a) s

/-- `OR B` (R516). -/
def execOrB (s : State) : Out := aluOp .or (.reg .b) s

/-- `OR C` (R516). -/
def execOrC (s : State) : Out := aluOp .or (.reg .c) s

/-- `OR D` (R516). -/
def execOrD (s : State) : Out := aluOp .or (.reg .d) s

/-- `OR E` (R516). -/
def execOrE (s : State) : Out := aluOp .or (.reg .e) s

/-- `OR H` (R516). -/
def execOrH (s : State) : Out := aluOp .or (.reg .h) s

/-- `OR L` (R516). -/
def execOrL (s : State) : Out := aluOp .or (.reg .l) s

/-- `OR (HL)` (R516). -/
def execOrIndHl (s : State) : Out := aluOp .or .hl s

/-- `OR A` (R516). -/
def execOrA (s : State) : Out := aluOp .or (.reg .a) s

/-- `CP B` (R517). -/
def execCpB (s : State) : Out := aluOp .cp (.reg .b) s

/-- `CP C` (R517). -/
def execCpC (s : State) : Out := aluOp .cp (.reg .c) s

/-- `CP D` (R517). -/
def execCpD (s : State) : Out := aluOp .cp (.reg .d) s

/-- `CP E` (R517). -/
def execCpE (s : State) : Out := aluOp .cp (.reg .e) s

/-- `CP H` (R517). -/
def execCpH (s : State) : Out := aluOp .cp (.reg .h) s

/-- `CP L` (R517). -/
def execCpL (s : State) : Out := aluOp .cp (.reg .l) s

/-- `CP (HL)` (R517). -/
def execCpIndHl (s : State) : Out := aluOp .cp .hl s

/-- `CP A` (R517). -/
def execCpA (s : State) : Out := aluOp .cp (.reg .a) s

end Sys2Proof.Machine
end

