-- ==== Sys2Proof/Machine/Control.lean ====
section
/-! DEFINITION. Jumps, calls and returns (44_control.md R800-R811): one meaning for each instruction. -/

namespace Sys2Proof.Machine

/-- `JR e8` (R804). -/
def execJrE8 (e : Byte) (s : State) : Out := jumpIf true (relTarget e s) 12 12 s

/-- `JR NZ,e8` (R805). -/
def execJrNzE8 (e : Byte) (s : State) : Out := jumpIf (condHolds .nz s.cpu.f) (relTarget e s) 12 8 s

/-- `JR Z,e8` (R805). -/
def execJrZE8 (e : Byte) (s : State) : Out := jumpIf (condHolds .z s.cpu.f) (relTarget e s) 12 8 s

/-- `JR NC,e8` (R805). -/
def execJrNcE8 (e : Byte) (s : State) : Out := jumpIf (condHolds .nc s.cpu.f) (relTarget e s) 12 8 s

/-- `JR C,e8` (R805). -/
def execJrCE8 (e : Byte) (s : State) : Out := jumpIf (condHolds .c s.cpu.f) (relTarget e s) 12 8 s

/-- `RET NZ` (R809). -/
def execRetNz (s : State) : Out := retIf (condHolds .nz s.cpu.f) 20 8 s

/-- `JP NZ,a16` (R802). -/
def execJpNzA16 (nn : Word) (s : State) : Out := jumpIf (condHolds .nz s.cpu.f) nn 16 12 s

/-- `JP a16` (R801). -/
def execJpA16 (nn : Word) (s : State) : Out := jumpIf true nn 16 16 s

/-- `CALL NZ,a16` (R807). -/
def execCallNzA16 (nn : Word) (s : State) : Out := callIf (condHolds .nz s.cpu.f) nn 24 12 s

/-- `RST 00H` (R811). -/
def execRst00 (s : State) : Out := callIf true 0x00 16 16 s

/-- `RET Z` (R809). -/
def execRetZ (s : State) : Out := retIf (condHolds .z s.cpu.f) 20 8 s

/-- `RET` (R808). -/
def execRet (s : State) : Out := retIf true 16 16 s

/-- `JP Z,a16` (R802). -/
def execJpZA16 (nn : Word) (s : State) : Out := jumpIf (condHolds .z s.cpu.f) nn 16 12 s

/-- `CALL Z,a16` (R807). -/
def execCallZA16 (nn : Word) (s : State) : Out := callIf (condHolds .z s.cpu.f) nn 24 12 s

/-- `CALL a16` (R806). -/
def execCallA16 (nn : Word) (s : State) : Out := callIf true nn 24 24 s

/-- `RST 08H` (R811). -/
def execRst08 (s : State) : Out := callIf true 0x08 16 16 s

/-- `RET NC` (R809). -/
def execRetNc (s : State) : Out := retIf (condHolds .nc s.cpu.f) 20 8 s

/-- `JP NC,a16` (R802). -/
def execJpNcA16 (nn : Word) (s : State) : Out := jumpIf (condHolds .nc s.cpu.f) nn 16 12 s

/-- `CALL NC,a16` (R807). -/
def execCallNcA16 (nn : Word) (s : State) : Out := callIf (condHolds .nc s.cpu.f) nn 24 12 s

/-- `RST 10H` (R811). -/
def execRst10 (s : State) : Out := callIf true 0x10 16 16 s

/-- `RET C` (R809). -/
def execRetC (s : State) : Out := retIf (condHolds .c s.cpu.f) 20 8 s

/-- `RETI` (R810). -/
def execReti (s : State) : Out := .next (s.returnFromInterrupt.tick 16)

/-- `JP C,a16` (R802). -/
def execJpCA16 (nn : Word) (s : State) : Out := jumpIf (condHolds .c s.cpu.f) nn 16 12 s

/-- `CALL C,a16` (R807). -/
def execCallCA16 (nn : Word) (s : State) : Out := callIf (condHolds .c s.cpu.f) nn 24 12 s

/-- `RST 18H` (R811). -/
def execRst18 (s : State) : Out := callIf true 0x18 16 16 s

/-- `RST 20H` (R811). -/
def execRst20 (s : State) : Out := callIf true 0x20 16 16 s

/-- `JP HL` (R803). -/
def execJpHl (s : State) : Out := jumpIf true s.hl 4 4 s

/-- `RST 28H` (R811). -/
def execRst28 (s : State) : Out := callIf true 0x28 16 16 s

/-- `RST 30H` (R811). -/
def execRst30 (s : State) : Out := callIf true 0x30 16 16 s

/-- `RST 38H` (R811). -/
def execRst38 (s : State) : Out := callIf true 0x38 16 16 s

end Sys2Proof.Machine
end

