-- ==== Sys2Proof/Machine/Loads.lean ====
section
/-! DEFINITION. Loads, stores and stack transfers (40_load.md R400-R425): one meaning for each instruction. -/

namespace Sys2Proof.Machine

/-- `LD BC,d16` (R420). -/
def execLdBcD16 (nn : Word) (s : State) : Out := ldPairImm .bc nn s

/-- `LD (BC),A` (R408). -/
def execLdIndBcA (s : State) : Out := ldMemVal s.bc (s.getR .a) 8 s

/-- `LD B,d8` (R402). -/
def execLdBD8 (n : Byte) (s : State) : Out := ldRegImm .b n s

/-- `LD (a16),SP` (R421). -/
def execLdIndA16Sp (nn : Word) (s : State) : Out := ldMemSp nn s

/-- `LD A,(BC)` (R406). -/
def execLdAIndBc (s : State) : Out := ldRegMem .a s.bc 8 s

/-- `LD C,d8` (R402). -/
def execLdCD8 (n : Byte) (s : State) : Out := ldRegImm .c n s

/-- `LD DE,d16` (R420). -/
def execLdDeD16 (nn : Word) (s : State) : Out := ldPairImm .de nn s

/-- `LD (DE),A` (R409). -/
def execLdIndDeA (s : State) : Out := ldMemVal s.de (s.getR .a) 8 s

/-- `LD D,d8` (R402). -/
def execLdDD8 (n : Byte) (s : State) : Out := ldRegImm .d n s

/-- `LD A,(DE)` (R407). -/
def execLdAIndDe (s : State) : Out := ldRegMem .a s.de 8 s

/-- `LD E,d8` (R402). -/
def execLdED8 (n : Byte) (s : State) : Out := ldRegImm .e n s

/-- `LD HL,d16` (R420). -/
def execLdHlD16 (nn : Word) (s : State) : Out := ldPairImm .hl nn s

/-- `LD (HL+),A` (R419). -/
def execLdIndHliA (s : State) : Out := ldHlStepA 1 s

/-- `LD H,d8` (R402). -/
def execLdHD8 (n : Byte) (s : State) : Out := ldRegImm .h n s

/-- `LD A,(HL+)` (R418). -/
def execLdAIndHli (s : State) : Out := ldAHlStep 1 s

/-- `LD L,d8` (R402). -/
def execLdLD8 (n : Byte) (s : State) : Out := ldRegImm .l n s

/-- `LD SP,d16` (R420). -/
def execLdSpD16 (nn : Word) (s : State) : Out := ldPairImm .sp nn s

/-- `LD (HL-),A` (R417). -/
def execLdIndHldA (s : State) : Out := ldHlStepA (-1) s

/-- `LD (HL),d8` (R405). -/
def execLdIndHlD8 (n : Byte) (s : State) : Out := ldMemVal s.hl n 12 s

/-- `LD A,(HL-)` (R416). -/
def execLdAIndHld (s : State) : Out := ldAHlStep (-1) s

/-- `LD A,d8` (R402). -/
def execLdAD8 (n : Byte) (s : State) : Out := ldRegImm .a n s

/-- `POP BC` (R424). -/
def execPopBc (s : State) : Out := popPair .bc s

/-- `PUSH BC` (R423). -/
def execPushBc (s : State) : Out := pushPair .bc s

/-- `POP DE` (R424). -/
def execPopDe (s : State) : Out := popPair .de s

/-- `PUSH DE` (R423). -/
def execPushDe (s : State) : Out := pushPair .de s

/-- `LDH (a8),A` (R415). -/
def execLdhIndA8A (n : Byte) (s : State) : Out := ldMemVal (highPage n) (s.getR .a) 12 s

/-- `POP HL` (R424). -/
def execPopHl (s : State) : Out := popPair .hl s

/-- `LDH (C),A` (R413). -/
def execLdhIndCA (s : State) : Out := ldMemVal (highPage s.cpu.c) (s.getR .a) 8 s

/-- `PUSH HL` (R423). -/
def execPushHl (s : State) : Out := pushPair .hl s

/-- `LD (a16),A` (R411). -/
def execLdIndA16A (nn : Word) (s : State) : Out := ldMemVal nn (s.getR .a) 16 s

/-- `LDH A,(a8)` (R414). -/
def execLdhAIndA8 (n : Byte) (s : State) : Out := ldRegMem .a (highPage n) 12 s

/-- `POP AF` (R425). -/
def execPopAf (s : State) : Out := popPair .af s

/-- `LDH A,(C)` (R412). -/
def execLdhAIndC (s : State) : Out := ldRegMem .a (highPage s.cpu.c) 8 s

/-- `PUSH AF` (R423). -/
def execPushAf (s : State) : Out := pushPair .af s

/-- `LD SP,HL` (R422). -/
def execLdSpHl (s : State) : Out := .next ((s.setSp s.hl).tick 8)

/-- `LD A,(a16)` (R410). -/
def execLdAIndA16 (nn : Word) (s : State) : Out := ldRegMem .a nn 16 s

/-- `LD B,B` (R401). -/
def execLdBB (s : State) : Out := ldRegReg .b .b s

/-- `LD B,C` (R401). -/
def execLdBC (s : State) : Out := ldRegReg .b .c s

/-- `LD B,D` (R401). -/
def execLdBD (s : State) : Out := ldRegReg .b .d s

/-- `LD B,E` (R401). -/
def execLdBE (s : State) : Out := ldRegReg .b .e s

/-- `LD B,H` (R401). -/
def execLdBH (s : State) : Out := ldRegReg .b .h s

/-- `LD B,L` (R401). -/
def execLdBL (s : State) : Out := ldRegReg .b .l s

/-- `LD B,(HL)` (R403). -/
def execLdBIndHl (s : State) : Out := ldRegMem .b s.hl 8 s

/-- `LD B,A` (R401). -/
def execLdBA (s : State) : Out := ldRegReg .b .a s

/-- `LD C,B` (R401). -/
def execLdCB (s : State) : Out := ldRegReg .c .b s

/-- `LD C,C` (R401). -/
def execLdCC (s : State) : Out := ldRegReg .c .c s

/-- `LD C,D` (R401). -/
def execLdCD (s : State) : Out := ldRegReg .c .d s

/-- `LD C,E` (R401). -/
def execLdCE (s : State) : Out := ldRegReg .c .e s

/-- `LD C,H` (R401). -/
def execLdCH (s : State) : Out := ldRegReg .c .h s

/-- `LD C,L` (R401). -/
def execLdCL (s : State) : Out := ldRegReg .c .l s

/-- `LD C,(HL)` (R403). -/
def execLdCIndHl (s : State) : Out := ldRegMem .c s.hl 8 s

/-- `LD C,A` (R401). -/
def execLdCA (s : State) : Out := ldRegReg .c .a s

/-- `LD D,B` (R401). -/
def execLdDB (s : State) : Out := ldRegReg .d .b s

/-- `LD D,C` (R401). -/
def execLdDC (s : State) : Out := ldRegReg .d .c s

/-- `LD D,D` (R401). -/
def execLdDD (s : State) : Out := ldRegReg .d .d s

/-- `LD D,E` (R401). -/
def execLdDE (s : State) : Out := ldRegReg .d .e s

/-- `LD D,H` (R401). -/
def execLdDH (s : State) : Out := ldRegReg .d .h s

/-- `LD D,L` (R401). -/
def execLdDL (s : State) : Out := ldRegReg .d .l s

/-- `LD D,(HL)` (R403). -/
def execLdDIndHl (s : State) : Out := ldRegMem .d s.hl 8 s

/-- `LD D,A` (R401). -/
def execLdDA (s : State) : Out := ldRegReg .d .a s

/-- `LD E,B` (R401). -/
def execLdEB (s : State) : Out := ldRegReg .e .b s

/-- `LD E,C` (R401). -/
def execLdEC (s : State) : Out := ldRegReg .e .c s

/-- `LD E,D` (R401). -/
def execLdED (s : State) : Out := ldRegReg .e .d s

/-- `LD E,E` (R401). -/
def execLdEE (s : State) : Out := ldRegReg .e .e s

/-- `LD E,H` (R401). -/
def execLdEH (s : State) : Out := ldRegReg .e .h s

/-- `LD E,L` (R401). -/
def execLdEL (s : State) : Out := ldRegReg .e .l s

/-- `LD E,(HL)` (R403). -/
def execLdEIndHl (s : State) : Out := ldRegMem .e s.hl 8 s

/-- `LD E,A` (R401). -/
def execLdEA (s : State) : Out := ldRegReg .e .a s

/-- `LD H,B` (R401). -/
def execLdHB (s : State) : Out := ldRegReg .h .b s

/-- `LD H,C` (R401). -/
def execLdHC (s : State) : Out := ldRegReg .h .c s

/-- `LD H,D` (R401). -/
def execLdHD (s : State) : Out := ldRegReg .h .d s

/-- `LD H,E` (R401). -/
def execLdHE (s : State) : Out := ldRegReg .h .e s

/-- `LD H,H` (R401). -/
def execLdHH (s : State) : Out := ldRegReg .h .h s

/-- `LD H,L` (R401). -/
def execLdHL (s : State) : Out := ldRegReg .h .l s

/-- `LD H,(HL)` (R403). -/
def execLdHIndHl (s : State) : Out := ldRegMem .h s.hl 8 s

/-- `LD H,A` (R401). -/
def execLdHA (s : State) : Out := ldRegReg .h .a s

/-- `LD L,B` (R401). -/
def execLdLB (s : State) : Out := ldRegReg .l .b s

/-- `LD L,C` (R401). -/
def execLdLC (s : State) : Out := ldRegReg .l .c s

/-- `LD L,D` (R401). -/
def execLdLD (s : State) : Out := ldRegReg .l .d s

/-- `LD L,E` (R401). -/
def execLdLE (s : State) : Out := ldRegReg .l .e s

/-- `LD L,H` (R401). -/
def execLdLH (s : State) : Out := ldRegReg .l .h s

/-- `LD L,L` (R401). -/
def execLdLL (s : State) : Out := ldRegReg .l .l s

/-- `LD L,(HL)` (R403). -/
def execLdLIndHl (s : State) : Out := ldRegMem .l s.hl 8 s

/-- `LD L,A` (R401). -/
def execLdLA (s : State) : Out := ldRegReg .l .a s

/-- `LD (HL),B` (R404). -/
def execLdIndHlB (s : State) : Out := ldMemVal s.hl (s.getR .b) 8 s

/-- `LD (HL),C` (R404). -/
def execLdIndHlC (s : State) : Out := ldMemVal s.hl (s.getR .c) 8 s

/-- `LD (HL),D` (R404). -/
def execLdIndHlD (s : State) : Out := ldMemVal s.hl (s.getR .d) 8 s

/-- `LD (HL),E` (R404). -/
def execLdIndHlE (s : State) : Out := ldMemVal s.hl (s.getR .e) 8 s

/-- `LD (HL),H` (R404). -/
def execLdIndHlH (s : State) : Out := ldMemVal s.hl (s.getR .h) 8 s

/-- `LD (HL),L` (R404). -/
def execLdIndHlL (s : State) : Out := ldMemVal s.hl (s.getR .l) 8 s

/-- `LD (HL),A` (R404). -/
def execLdIndHlA (s : State) : Out := ldMemVal s.hl (s.getR .a) 8 s

/-- `LD A,B` (R401). -/
def execLdAB (s : State) : Out := ldRegReg .a .b s

/-- `LD A,C` (R401). -/
def execLdAC (s : State) : Out := ldRegReg .a .c s

/-- `LD A,D` (R401). -/
def execLdAD (s : State) : Out := ldRegReg .a .d s

/-- `LD A,E` (R401). -/
def execLdAE (s : State) : Out := ldRegReg .a .e s

/-- `LD A,H` (R401). -/
def execLdAH (s : State) : Out := ldRegReg .a .h s

/-- `LD A,L` (R401). -/
def execLdAL (s : State) : Out := ldRegReg .a .l s

/-- `LD A,(HL)` (R403). -/
def execLdAIndHl (s : State) : Out := ldRegMem .a s.hl 8 s

/-- `LD A,A` (R401). -/
def execLdAA (s : State) : Out := ldRegReg .a .a s

end Sys2Proof.Machine
end

