-- ==== Sys2Proof/Machine/RotShiftBit.lean ====
section
/-! DEFINITION. Rotates, shifts and bit operations (43_rotate_shift_bit.md R700-R721): one meaning for each instruction. -/

namespace Sys2Proof.Machine

/-- `RLCA` (R701). -/
def execRlca (s : State) : Out := modifyReg (rotComputeAcc .rlc) .a 4 s

/-- `RRCA` (R702). -/
def execRrca (s : State) : Out := modifyReg (rotComputeAcc .rrc) .a 4 s

/-- `RLA` (R703). -/
def execRla (s : State) : Out := modifyReg (rotComputeAcc .rl) .a 4 s

/-- `RRA` (R704). -/
def execRra (s : State) : Out := modifyReg (rotComputeAcc .rr) .a 4 s

/-- `RLC B` (R711). -/
def execCbRlcB (s : State) : Out := modifyReg (rotCompute .rlc) .b 8 s

/-- `RLC C` (R711). -/
def execCbRlcC (s : State) : Out := modifyReg (rotCompute .rlc) .c 8 s

/-- `RLC D` (R711). -/
def execCbRlcD (s : State) : Out := modifyReg (rotCompute .rlc) .d 8 s

/-- `RLC E` (R711). -/
def execCbRlcE (s : State) : Out := modifyReg (rotCompute .rlc) .e 8 s

/-- `RLC H` (R711). -/
def execCbRlcH (s : State) : Out := modifyReg (rotCompute .rlc) .h 8 s

/-- `RLC L` (R711). -/
def execCbRlcL (s : State) : Out := modifyReg (rotCompute .rlc) .l 8 s

/-- `RLC (HL)` (R711). -/
def execCbRlcIndHl (s : State) : Out := modifyHl (rotCompute .rlc) 16 s

/-- `RLC A` (R711). -/
def execCbRlcA (s : State) : Out := modifyReg (rotCompute .rlc) .a 8 s

/-- `RRC B` (R712). -/
def execCbRrcB (s : State) : Out := modifyReg (rotCompute .rrc) .b 8 s

/-- `RRC C` (R712). -/
def execCbRrcC (s : State) : Out := modifyReg (rotCompute .rrc) .c 8 s

/-- `RRC D` (R712). -/
def execCbRrcD (s : State) : Out := modifyReg (rotCompute .rrc) .d 8 s

/-- `RRC E` (R712). -/
def execCbRrcE (s : State) : Out := modifyReg (rotCompute .rrc) .e 8 s

/-- `RRC H` (R712). -/
def execCbRrcH (s : State) : Out := modifyReg (rotCompute .rrc) .h 8 s

/-- `RRC L` (R712). -/
def execCbRrcL (s : State) : Out := modifyReg (rotCompute .rrc) .l 8 s

/-- `RRC (HL)` (R712). -/
def execCbRrcIndHl (s : State) : Out := modifyHl (rotCompute .rrc) 16 s

/-- `RRC A` (R712). -/
def execCbRrcA (s : State) : Out := modifyReg (rotCompute .rrc) .a 8 s

/-- `RL B` (R713). -/
def execCbRlB (s : State) : Out := modifyReg (rotCompute .rl) .b 8 s

/-- `RL C` (R713). -/
def execCbRlC (s : State) : Out := modifyReg (rotCompute .rl) .c 8 s

/-- `RL D` (R713). -/
def execCbRlD (s : State) : Out := modifyReg (rotCompute .rl) .d 8 s

/-- `RL E` (R713). -/
def execCbRlE (s : State) : Out := modifyReg (rotCompute .rl) .e 8 s

/-- `RL H` (R713). -/
def execCbRlH (s : State) : Out := modifyReg (rotCompute .rl) .h 8 s

/-- `RL L` (R713). -/
def execCbRlL (s : State) : Out := modifyReg (rotCompute .rl) .l 8 s

/-- `RL (HL)` (R713). -/
def execCbRlIndHl (s : State) : Out := modifyHl (rotCompute .rl) 16 s

/-- `RL A` (R713). -/
def execCbRlA (s : State) : Out := modifyReg (rotCompute .rl) .a 8 s

/-- `RR B` (R714). -/
def execCbRrB (s : State) : Out := modifyReg (rotCompute .rr) .b 8 s

/-- `RR C` (R714). -/
def execCbRrC (s : State) : Out := modifyReg (rotCompute .rr) .c 8 s

/-- `RR D` (R714). -/
def execCbRrD (s : State) : Out := modifyReg (rotCompute .rr) .d 8 s

/-- `RR E` (R714). -/
def execCbRrE (s : State) : Out := modifyReg (rotCompute .rr) .e 8 s

/-- `RR H` (R714). -/
def execCbRrH (s : State) : Out := modifyReg (rotCompute .rr) .h 8 s

/-- `RR L` (R714). -/
def execCbRrL (s : State) : Out := modifyReg (rotCompute .rr) .l 8 s

/-- `RR (HL)` (R714). -/
def execCbRrIndHl (s : State) : Out := modifyHl (rotCompute .rr) 16 s

/-- `RR A` (R714). -/
def execCbRrA (s : State) : Out := modifyReg (rotCompute .rr) .a 8 s

/-- `SLA B` (R715). -/
def execCbSlaB (s : State) : Out := modifyReg (rotCompute .sla) .b 8 s

/-- `SLA C` (R715). -/
def execCbSlaC (s : State) : Out := modifyReg (rotCompute .sla) .c 8 s

/-- `SLA D` (R715). -/
def execCbSlaD (s : State) : Out := modifyReg (rotCompute .sla) .d 8 s

/-- `SLA E` (R715). -/
def execCbSlaE (s : State) : Out := modifyReg (rotCompute .sla) .e 8 s

/-- `SLA H` (R715). -/
def execCbSlaH (s : State) : Out := modifyReg (rotCompute .sla) .h 8 s

/-- `SLA L` (R715). -/
def execCbSlaL (s : State) : Out := modifyReg (rotCompute .sla) .l 8 s

/-- `SLA (HL)` (R715). -/
def execCbSlaIndHl (s : State) : Out := modifyHl (rotCompute .sla) 16 s

/-- `SLA A` (R715). -/
def execCbSlaA (s : State) : Out := modifyReg (rotCompute .sla) .a 8 s

/-- `SRA B` (R716). -/
def execCbSraB (s : State) : Out := modifyReg (rotCompute .sra) .b 8 s

/-- `SRA C` (R716). -/
def execCbSraC (s : State) : Out := modifyReg (rotCompute .sra) .c 8 s

/-- `SRA D` (R716). -/
def execCbSraD (s : State) : Out := modifyReg (rotCompute .sra) .d 8 s

/-- `SRA E` (R716). -/
def execCbSraE (s : State) : Out := modifyReg (rotCompute .sra) .e 8 s

/-- `SRA H` (R716). -/
def execCbSraH (s : State) : Out := modifyReg (rotCompute .sra) .h 8 s

/-- `SRA L` (R716). -/
def execCbSraL (s : State) : Out := modifyReg (rotCompute .sra) .l 8 s

/-- `SRA (HL)` (R716). -/
def execCbSraIndHl (s : State) : Out := modifyHl (rotCompute .sra) 16 s

/-- `SRA A` (R716). -/
def execCbSraA (s : State) : Out := modifyReg (rotCompute .sra) .a 8 s

/-- `SWAP B` (R717). -/
def execCbSwapB (s : State) : Out := modifyReg (rotCompute .swap) .b 8 s

/-- `SWAP C` (R717). -/
def execCbSwapC (s : State) : Out := modifyReg (rotCompute .swap) .c 8 s

/-- `SWAP D` (R717). -/
def execCbSwapD (s : State) : Out := modifyReg (rotCompute .swap) .d 8 s

/-- `SWAP E` (R717). -/
def execCbSwapE (s : State) : Out := modifyReg (rotCompute .swap) .e 8 s

/-- `SWAP H` (R717). -/
def execCbSwapH (s : State) : Out := modifyReg (rotCompute .swap) .h 8 s

/-- `SWAP L` (R717). -/
def execCbSwapL (s : State) : Out := modifyReg (rotCompute .swap) .l 8 s

/-- `SWAP (HL)` (R717). -/
def execCbSwapIndHl (s : State) : Out := modifyHl (rotCompute .swap) 16 s

/-- `SWAP A` (R717). -/
def execCbSwapA (s : State) : Out := modifyReg (rotCompute .swap) .a 8 s

/-- `SRL B` (R718). -/
def execCbSrlB (s : State) : Out := modifyReg (rotCompute .srl) .b 8 s

/-- `SRL C` (R718). -/
def execCbSrlC (s : State) : Out := modifyReg (rotCompute .srl) .c 8 s

/-- `SRL D` (R718). -/
def execCbSrlD (s : State) : Out := modifyReg (rotCompute .srl) .d 8 s

/-- `SRL E` (R718). -/
def execCbSrlE (s : State) : Out := modifyReg (rotCompute .srl) .e 8 s

/-- `SRL H` (R718). -/
def execCbSrlH (s : State) : Out := modifyReg (rotCompute .srl) .h 8 s

/-- `SRL L` (R718). -/
def execCbSrlL (s : State) : Out := modifyReg (rotCompute .srl) .l 8 s

/-- `SRL (HL)` (R718). -/
def execCbSrlIndHl (s : State) : Out := modifyHl (rotCompute .srl) 16 s

/-- `SRL A` (R718). -/
def execCbSrlA (s : State) : Out := modifyReg (rotCompute .srl) .a 8 s

/-- `BIT 0,B` (R719). -/
def execCbBit0B (s : State) : Out := bitOp .o0 (.reg .b) 8 s

/-- `BIT 0,C` (R719). -/
def execCbBit0C (s : State) : Out := bitOp .o0 (.reg .c) 8 s

/-- `BIT 0,D` (R719). -/
def execCbBit0D (s : State) : Out := bitOp .o0 (.reg .d) 8 s

/-- `BIT 0,E` (R719). -/
def execCbBit0E (s : State) : Out := bitOp .o0 (.reg .e) 8 s

/-- `BIT 0,H` (R719). -/
def execCbBit0H (s : State) : Out := bitOp .o0 (.reg .h) 8 s

/-- `BIT 0,L` (R719). -/
def execCbBit0L (s : State) : Out := bitOp .o0 (.reg .l) 8 s

/-- `BIT 0,(HL)` (R719). -/
def execCbBit0IndHl (s : State) : Out := bitOp .o0 .hl 12 s

/-- `BIT 0,A` (R719). -/
def execCbBit0A (s : State) : Out := bitOp .o0 (.reg .a) 8 s

/-- `BIT 1,B` (R719). -/
def execCbBit1B (s : State) : Out := bitOp .o1 (.reg .b) 8 s

/-- `BIT 1,C` (R719). -/
def execCbBit1C (s : State) : Out := bitOp .o1 (.reg .c) 8 s

/-- `BIT 1,D` (R719). -/
def execCbBit1D (s : State) : Out := bitOp .o1 (.reg .d) 8 s

/-- `BIT 1,E` (R719). -/
def execCbBit1E (s : State) : Out := bitOp .o1 (.reg .e) 8 s

/-- `BIT 1,H` (R719). -/
def execCbBit1H (s : State) : Out := bitOp .o1 (.reg .h) 8 s

/-- `BIT 1,L` (R719). -/
def execCbBit1L (s : State) : Out := bitOp .o1 (.reg .l) 8 s

/-- `BIT 1,(HL)` (R719). -/
def execCbBit1IndHl (s : State) : Out := bitOp .o1 .hl 12 s

/-- `BIT 1,A` (R719). -/
def execCbBit1A (s : State) : Out := bitOp .o1 (.reg .a) 8 s

/-- `BIT 2,B` (R719). -/
def execCbBit2B (s : State) : Out := bitOp .o2 (.reg .b) 8 s

/-- `BIT 2,C` (R719). -/
def execCbBit2C (s : State) : Out := bitOp .o2 (.reg .c) 8 s

/-- `BIT 2,D` (R719). -/
def execCbBit2D (s : State) : Out := bitOp .o2 (.reg .d) 8 s

/-- `BIT 2,E` (R719). -/
def execCbBit2E (s : State) : Out := bitOp .o2 (.reg .e) 8 s

/-- `BIT 2,H` (R719). -/
def execCbBit2H (s : State) : Out := bitOp .o2 (.reg .h) 8 s

/-- `BIT 2,L` (R719). -/
def execCbBit2L (s : State) : Out := bitOp .o2 (.reg .l) 8 s

/-- `BIT 2,(HL)` (R719). -/
def execCbBit2IndHl (s : State) : Out := bitOp .o2 .hl 12 s

/-- `BIT 2,A` (R719). -/
def execCbBit2A (s : State) : Out := bitOp .o2 (.reg .a) 8 s

/-- `BIT 3,B` (R719). -/
def execCbBit3B (s : State) : Out := bitOp .o3 (.reg .b) 8 s

/-- `BIT 3,C` (R719). -/
def execCbBit3C (s : State) : Out := bitOp .o3 (.reg .c) 8 s

/-- `BIT 3,D` (R719). -/
def execCbBit3D (s : State) : Out := bitOp .o3 (.reg .d) 8 s

/-- `BIT 3,E` (R719). -/
def execCbBit3E (s : State) : Out := bitOp .o3 (.reg .e) 8 s

/-- `BIT 3,H` (R719). -/
def execCbBit3H (s : State) : Out := bitOp .o3 (.reg .h) 8 s

/-- `BIT 3,L` (R719). -/
def execCbBit3L (s : State) : Out := bitOp .o3 (.reg .l) 8 s

/-- `BIT 3,(HL)` (R719). -/
def execCbBit3IndHl (s : State) : Out := bitOp .o3 .hl 12 s

/-- `BIT 3,A` (R719). -/
def execCbBit3A (s : State) : Out := bitOp .o3 (.reg .a) 8 s

/-- `BIT 4,B` (R719). -/
def execCbBit4B (s : State) : Out := bitOp .o4 (.reg .b) 8 s

/-- `BIT 4,C` (R719). -/
def execCbBit4C (s : State) : Out := bitOp .o4 (.reg .c) 8 s

/-- `BIT 4,D` (R719). -/
def execCbBit4D (s : State) : Out := bitOp .o4 (.reg .d) 8 s

/-- `BIT 4,E` (R719). -/
def execCbBit4E (s : State) : Out := bitOp .o4 (.reg .e) 8 s

/-- `BIT 4,H` (R719). -/
def execCbBit4H (s : State) : Out := bitOp .o4 (.reg .h) 8 s

/-- `BIT 4,L` (R719). -/
def execCbBit4L (s : State) : Out := bitOp .o4 (.reg .l) 8 s

/-- `BIT 4,(HL)` (R719). -/
def execCbBit4IndHl (s : State) : Out := bitOp .o4 .hl 12 s

/-- `BIT 4,A` (R719). -/
def execCbBit4A (s : State) : Out := bitOp .o4 (.reg .a) 8 s

/-- `BIT 5,B` (R719). -/
def execCbBit5B (s : State) : Out := bitOp .o5 (.reg .b) 8 s

/-- `BIT 5,C` (R719). -/
def execCbBit5C (s : State) : Out := bitOp .o5 (.reg .c) 8 s

/-- `BIT 5,D` (R719). -/
def execCbBit5D (s : State) : Out := bitOp .o5 (.reg .d) 8 s

/-- `BIT 5,E` (R719). -/
def execCbBit5E (s : State) : Out := bitOp .o5 (.reg .e) 8 s

/-- `BIT 5,H` (R719). -/
def execCbBit5H (s : State) : Out := bitOp .o5 (.reg .h) 8 s

/-- `BIT 5,L` (R719). -/
def execCbBit5L (s : State) : Out := bitOp .o5 (.reg .l) 8 s

/-- `BIT 5,(HL)` (R719). -/
def execCbBit5IndHl (s : State) : Out := bitOp .o5 .hl 12 s

/-- `BIT 5,A` (R719). -/
def execCbBit5A (s : State) : Out := bitOp .o5 (.reg .a) 8 s

/-- `BIT 6,B` (R719). -/
def execCbBit6B (s : State) : Out := bitOp .o6 (.reg .b) 8 s

/-- `BIT 6,C` (R719). -/
def execCbBit6C (s : State) : Out := bitOp .o6 (.reg .c) 8 s

/-- `BIT 6,D` (R719). -/
def execCbBit6D (s : State) : Out := bitOp .o6 (.reg .d) 8 s

/-- `BIT 6,E` (R719). -/
def execCbBit6E (s : State) : Out := bitOp .o6 (.reg .e) 8 s

/-- `BIT 6,H` (R719). -/
def execCbBit6H (s : State) : Out := bitOp .o6 (.reg .h) 8 s

/-- `BIT 6,L` (R719). -/
def execCbBit6L (s : State) : Out := bitOp .o6 (.reg .l) 8 s

/-- `BIT 6,(HL)` (R719). -/
def execCbBit6IndHl (s : State) : Out := bitOp .o6 .hl 12 s

/-- `BIT 6,A` (R719). -/
def execCbBit6A (s : State) : Out := bitOp .o6 (.reg .a) 8 s

/-- `BIT 7,B` (R719). -/
def execCbBit7B (s : State) : Out := bitOp .o7 (.reg .b) 8 s

/-- `BIT 7,C` (R719). -/
def execCbBit7C (s : State) : Out := bitOp .o7 (.reg .c) 8 s

/-- `BIT 7,D` (R719). -/
def execCbBit7D (s : State) : Out := bitOp .o7 (.reg .d) 8 s

/-- `BIT 7,E` (R719). -/
def execCbBit7E (s : State) : Out := bitOp .o7 (.reg .e) 8 s

/-- `BIT 7,H` (R719). -/
def execCbBit7H (s : State) : Out := bitOp .o7 (.reg .h) 8 s

/-- `BIT 7,L` (R719). -/
def execCbBit7L (s : State) : Out := bitOp .o7 (.reg .l) 8 s

/-- `BIT 7,(HL)` (R719). -/
def execCbBit7IndHl (s : State) : Out := bitOp .o7 .hl 12 s

/-- `BIT 7,A` (R719). -/
def execCbBit7A (s : State) : Out := bitOp .o7 (.reg .a) 8 s

/-- `RES 0,B` (R720). -/
def execCbRes0B (s : State) : Out := modifyReg (keepFlags (bitReset .o0)) .b 8 s

/-- `RES 0,C` (R720). -/
def execCbRes0C (s : State) : Out := modifyReg (keepFlags (bitReset .o0)) .c 8 s

/-- `RES 0,D` (R720). -/
def execCbRes0D (s : State) : Out := modifyReg (keepFlags (bitReset .o0)) .d 8 s

/-- `RES 0,E` (R720). -/
def execCbRes0E (s : State) : Out := modifyReg (keepFlags (bitReset .o0)) .e 8 s

/-- `RES 0,H` (R720). -/
def execCbRes0H (s : State) : Out := modifyReg (keepFlags (bitReset .o0)) .h 8 s

/-- `RES 0,L` (R720). -/
def execCbRes0L (s : State) : Out := modifyReg (keepFlags (bitReset .o0)) .l 8 s

/-- `RES 0,(HL)` (R720). -/
def execCbRes0IndHl (s : State) : Out := modifyHl (keepFlags (bitReset .o0)) 16 s

/-- `RES 0,A` (R720). -/
def execCbRes0A (s : State) : Out := modifyReg (keepFlags (bitReset .o0)) .a 8 s

/-- `RES 1,B` (R720). -/
def execCbRes1B (s : State) : Out := modifyReg (keepFlags (bitReset .o1)) .b 8 s

/-- `RES 1,C` (R720). -/
def execCbRes1C (s : State) : Out := modifyReg (keepFlags (bitReset .o1)) .c 8 s

/-- `RES 1,D` (R720). -/
def execCbRes1D (s : State) : Out := modifyReg (keepFlags (bitReset .o1)) .d 8 s

/-- `RES 1,E` (R720). -/
def execCbRes1E (s : State) : Out := modifyReg (keepFlags (bitReset .o1)) .e 8 s

/-- `RES 1,H` (R720). -/
def execCbRes1H (s : State) : Out := modifyReg (keepFlags (bitReset .o1)) .h 8 s

/-- `RES 1,L` (R720). -/
def execCbRes1L (s : State) : Out := modifyReg (keepFlags (bitReset .o1)) .l 8 s

/-- `RES 1,(HL)` (R720). -/
def execCbRes1IndHl (s : State) : Out := modifyHl (keepFlags (bitReset .o1)) 16 s

/-- `RES 1,A` (R720). -/
def execCbRes1A (s : State) : Out := modifyReg (keepFlags (bitReset .o1)) .a 8 s

/-- `RES 2,B` (R720). -/
def execCbRes2B (s : State) : Out := modifyReg (keepFlags (bitReset .o2)) .b 8 s

/-- `RES 2,C` (R720). -/
def execCbRes2C (s : State) : Out := modifyReg (keepFlags (bitReset .o2)) .c 8 s

/-- `RES 2,D` (R720). -/
def execCbRes2D (s : State) : Out := modifyReg (keepFlags (bitReset .o2)) .d 8 s

/-- `RES 2,E` (R720). -/
def execCbRes2E (s : State) : Out := modifyReg (keepFlags (bitReset .o2)) .e 8 s

/-- `RES 2,H` (R720). -/
def execCbRes2H (s : State) : Out := modifyReg (keepFlags (bitReset .o2)) .h 8 s

/-- `RES 2,L` (R720). -/
def execCbRes2L (s : State) : Out := modifyReg (keepFlags (bitReset .o2)) .l 8 s

/-- `RES 2,(HL)` (R720). -/
def execCbRes2IndHl (s : State) : Out := modifyHl (keepFlags (bitReset .o2)) 16 s

/-- `RES 2,A` (R720). -/
def execCbRes2A (s : State) : Out := modifyReg (keepFlags (bitReset .o2)) .a 8 s

/-- `RES 3,B` (R720). -/
def execCbRes3B (s : State) : Out := modifyReg (keepFlags (bitReset .o3)) .b 8 s

/-- `RES 3,C` (R720). -/
def execCbRes3C (s : State) : Out := modifyReg (keepFlags (bitReset .o3)) .c 8 s

/-- `RES 3,D` (R720). -/
def execCbRes3D (s : State) : Out := modifyReg (keepFlags (bitReset .o3)) .d 8 s

/-- `RES 3,E` (R720). -/
def execCbRes3E (s : State) : Out := modifyReg (keepFlags (bitReset .o3)) .e 8 s

/-- `RES 3,H` (R720). -/
def execCbRes3H (s : State) : Out := modifyReg (keepFlags (bitReset .o3)) .h 8 s

/-- `RES 3,L` (R720). -/
def execCbRes3L (s : State) : Out := modifyReg (keepFlags (bitReset .o3)) .l 8 s

/-- `RES 3,(HL)` (R720). -/
def execCbRes3IndHl (s : State) : Out := modifyHl (keepFlags (bitReset .o3)) 16 s

/-- `RES 3,A` (R720). -/
def execCbRes3A (s : State) : Out := modifyReg (keepFlags (bitReset .o3)) .a 8 s

/-- `RES 4,B` (R720). -/
def execCbRes4B (s : State) : Out := modifyReg (keepFlags (bitReset .o4)) .b 8 s

/-- `RES 4,C` (R720). -/
def execCbRes4C (s : State) : Out := modifyReg (keepFlags (bitReset .o4)) .c 8 s

/-- `RES 4,D` (R720). -/
def execCbRes4D (s : State) : Out := modifyReg (keepFlags (bitReset .o4)) .d 8 s

/-- `RES 4,E` (R720). -/
def execCbRes4E (s : State) : Out := modifyReg (keepFlags (bitReset .o4)) .e 8 s

/-- `RES 4,H` (R720). -/
def execCbRes4H (s : State) : Out := modifyReg (keepFlags (bitReset .o4)) .h 8 s

/-- `RES 4,L` (R720). -/
def execCbRes4L (s : State) : Out := modifyReg (keepFlags (bitReset .o4)) .l 8 s

/-- `RES 4,(HL)` (R720). -/
def execCbRes4IndHl (s : State) : Out := modifyHl (keepFlags (bitReset .o4)) 16 s

/-- `RES 4,A` (R720). -/
def execCbRes4A (s : State) : Out := modifyReg (keepFlags (bitReset .o4)) .a 8 s

/-- `RES 5,B` (R720). -/
def execCbRes5B (s : State) : Out := modifyReg (keepFlags (bitReset .o5)) .b 8 s

/-- `RES 5,C` (R720). -/
def execCbRes5C (s : State) : Out := modifyReg (keepFlags (bitReset .o5)) .c 8 s

/-- `RES 5,D` (R720). -/
def execCbRes5D (s : State) : Out := modifyReg (keepFlags (bitReset .o5)) .d 8 s

/-- `RES 5,E` (R720). -/
def execCbRes5E (s : State) : Out := modifyReg (keepFlags (bitReset .o5)) .e 8 s

/-- `RES 5,H` (R720). -/
def execCbRes5H (s : State) : Out := modifyReg (keepFlags (bitReset .o5)) .h 8 s

/-- `RES 5,L` (R720). -/
def execCbRes5L (s : State) : Out := modifyReg (keepFlags (bitReset .o5)) .l 8 s

/-- `RES 5,(HL)` (R720). -/
def execCbRes5IndHl (s : State) : Out := modifyHl (keepFlags (bitReset .o5)) 16 s

/-- `RES 5,A` (R720). -/
def execCbRes5A (s : State) : Out := modifyReg (keepFlags (bitReset .o5)) .a 8 s

/-- `RES 6,B` (R720). -/
def execCbRes6B (s : State) : Out := modifyReg (keepFlags (bitReset .o6)) .b 8 s

/-- `RES 6,C` (R720). -/
def execCbRes6C (s : State) : Out := modifyReg (keepFlags (bitReset .o6)) .c 8 s

/-- `RES 6,D` (R720). -/
def execCbRes6D (s : State) : Out := modifyReg (keepFlags (bitReset .o6)) .d 8 s

/-- `RES 6,E` (R720). -/
def execCbRes6E (s : State) : Out := modifyReg (keepFlags (bitReset .o6)) .e 8 s

/-- `RES 6,H` (R720). -/
def execCbRes6H (s : State) : Out := modifyReg (keepFlags (bitReset .o6)) .h 8 s

/-- `RES 6,L` (R720). -/
def execCbRes6L (s : State) : Out := modifyReg (keepFlags (bitReset .o6)) .l 8 s

/-- `RES 6,(HL)` (R720). -/
def execCbRes6IndHl (s : State) : Out := modifyHl (keepFlags (bitReset .o6)) 16 s

/-- `RES 6,A` (R720). -/
def execCbRes6A (s : State) : Out := modifyReg (keepFlags (bitReset .o6)) .a 8 s

/-- `RES 7,B` (R720). -/
def execCbRes7B (s : State) : Out := modifyReg (keepFlags (bitReset .o7)) .b 8 s

/-- `RES 7,C` (R720). -/
def execCbRes7C (s : State) : Out := modifyReg (keepFlags (bitReset .o7)) .c 8 s

/-- `RES 7,D` (R720). -/
def execCbRes7D (s : State) : Out := modifyReg (keepFlags (bitReset .o7)) .d 8 s

/-- `RES 7,E` (R720). -/
def execCbRes7E (s : State) : Out := modifyReg (keepFlags (bitReset .o7)) .e 8 s

/-- `RES 7,H` (R720). -/
def execCbRes7H (s : State) : Out := modifyReg (keepFlags (bitReset .o7)) .h 8 s

/-- `RES 7,L` (R720). -/
def execCbRes7L (s : State) : Out := modifyReg (keepFlags (bitReset .o7)) .l 8 s

/-- `RES 7,(HL)` (R720). -/
def execCbRes7IndHl (s : State) : Out := modifyHl (keepFlags (bitReset .o7)) 16 s

/-- `RES 7,A` (R720). -/
def execCbRes7A (s : State) : Out := modifyReg (keepFlags (bitReset .o7)) .a 8 s

/-- `SET 0,B` (R721). -/
def execCbSet0B (s : State) : Out := modifyReg (keepFlags (bitSet .o0)) .b 8 s

/-- `SET 0,C` (R721). -/
def execCbSet0C (s : State) : Out := modifyReg (keepFlags (bitSet .o0)) .c 8 s

/-- `SET 0,D` (R721). -/
def execCbSet0D (s : State) : Out := modifyReg (keepFlags (bitSet .o0)) .d 8 s

/-- `SET 0,E` (R721). -/
def execCbSet0E (s : State) : Out := modifyReg (keepFlags (bitSet .o0)) .e 8 s

/-- `SET 0,H` (R721). -/
def execCbSet0H (s : State) : Out := modifyReg (keepFlags (bitSet .o0)) .h 8 s

/-- `SET 0,L` (R721). -/
def execCbSet0L (s : State) : Out := modifyReg (keepFlags (bitSet .o0)) .l 8 s

/-- `SET 0,(HL)` (R721). -/
def execCbSet0IndHl (s : State) : Out := modifyHl (keepFlags (bitSet .o0)) 16 s

/-- `SET 0,A` (R721). -/
def execCbSet0A (s : State) : Out := modifyReg (keepFlags (bitSet .o0)) .a 8 s

/-- `SET 1,B` (R721). -/
def execCbSet1B (s : State) : Out := modifyReg (keepFlags (bitSet .o1)) .b 8 s

/-- `SET 1,C` (R721). -/
def execCbSet1C (s : State) : Out := modifyReg (keepFlags (bitSet .o1)) .c 8 s

/-- `SET 1,D` (R721). -/
def execCbSet1D (s : State) : Out := modifyReg (keepFlags (bitSet .o1)) .d 8 s

/-- `SET 1,E` (R721). -/
def execCbSet1E (s : State) : Out := modifyReg (keepFlags (bitSet .o1)) .e 8 s

/-- `SET 1,H` (R721). -/
def execCbSet1H (s : State) : Out := modifyReg (keepFlags (bitSet .o1)) .h 8 s

/-- `SET 1,L` (R721). -/
def execCbSet1L (s : State) : Out := modifyReg (keepFlags (bitSet .o1)) .l 8 s

/-- `SET 1,(HL)` (R721). -/
def execCbSet1IndHl (s : State) : Out := modifyHl (keepFlags (bitSet .o1)) 16 s

/-- `SET 1,A` (R721). -/
def execCbSet1A (s : State) : Out := modifyReg (keepFlags (bitSet .o1)) .a 8 s

/-- `SET 2,B` (R721). -/
def execCbSet2B (s : State) : Out := modifyReg (keepFlags (bitSet .o2)) .b 8 s

/-- `SET 2,C` (R721). -/
def execCbSet2C (s : State) : Out := modifyReg (keepFlags (bitSet .o2)) .c 8 s

/-- `SET 2,D` (R721). -/
def execCbSet2D (s : State) : Out := modifyReg (keepFlags (bitSet .o2)) .d 8 s

/-- `SET 2,E` (R721). -/
def execCbSet2E (s : State) : Out := modifyReg (keepFlags (bitSet .o2)) .e 8 s

/-- `SET 2,H` (R721). -/
def execCbSet2H (s : State) : Out := modifyReg (keepFlags (bitSet .o2)) .h 8 s

/-- `SET 2,L` (R721). -/
def execCbSet2L (s : State) : Out := modifyReg (keepFlags (bitSet .o2)) .l 8 s

/-- `SET 2,(HL)` (R721). -/
def execCbSet2IndHl (s : State) : Out := modifyHl (keepFlags (bitSet .o2)) 16 s

/-- `SET 2,A` (R721). -/
def execCbSet2A (s : State) : Out := modifyReg (keepFlags (bitSet .o2)) .a 8 s

/-- `SET 3,B` (R721). -/
def execCbSet3B (s : State) : Out := modifyReg (keepFlags (bitSet .o3)) .b 8 s

/-- `SET 3,C` (R721). -/
def execCbSet3C (s : State) : Out := modifyReg (keepFlags (bitSet .o3)) .c 8 s

/-- `SET 3,D` (R721). -/
def execCbSet3D (s : State) : Out := modifyReg (keepFlags (bitSet .o3)) .d 8 s

/-- `SET 3,E` (R721). -/
def execCbSet3E (s : State) : Out := modifyReg (keepFlags (bitSet .o3)) .e 8 s

/-- `SET 3,H` (R721). -/
def execCbSet3H (s : State) : Out := modifyReg (keepFlags (bitSet .o3)) .h 8 s

/-- `SET 3,L` (R721). -/
def execCbSet3L (s : State) : Out := modifyReg (keepFlags (bitSet .o3)) .l 8 s

/-- `SET 3,(HL)` (R721). -/
def execCbSet3IndHl (s : State) : Out := modifyHl (keepFlags (bitSet .o3)) 16 s

/-- `SET 3,A` (R721). -/
def execCbSet3A (s : State) : Out := modifyReg (keepFlags (bitSet .o3)) .a 8 s

/-- `SET 4,B` (R721). -/
def execCbSet4B (s : State) : Out := modifyReg (keepFlags (bitSet .o4)) .b 8 s

/-- `SET 4,C` (R721). -/
def execCbSet4C (s : State) : Out := modifyReg (keepFlags (bitSet .o4)) .c 8 s

/-- `SET 4,D` (R721). -/
def execCbSet4D (s : State) : Out := modifyReg (keepFlags (bitSet .o4)) .d 8 s

/-- `SET 4,E` (R721). -/
def execCbSet4E (s : State) : Out := modifyReg (keepFlags (bitSet .o4)) .e 8 s

/-- `SET 4,H` (R721). -/
def execCbSet4H (s : State) : Out := modifyReg (keepFlags (bitSet .o4)) .h 8 s

/-- `SET 4,L` (R721). -/
def execCbSet4L (s : State) : Out := modifyReg (keepFlags (bitSet .o4)) .l 8 s

/-- `SET 4,(HL)` (R721). -/
def execCbSet4IndHl (s : State) : Out := modifyHl (keepFlags (bitSet .o4)) 16 s

/-- `SET 4,A` (R721). -/
def execCbSet4A (s : State) : Out := modifyReg (keepFlags (bitSet .o4)) .a 8 s

/-- `SET 5,B` (R721). -/
def execCbSet5B (s : State) : Out := modifyReg (keepFlags (bitSet .o5)) .b 8 s

/-- `SET 5,C` (R721). -/
def execCbSet5C (s : State) : Out := modifyReg (keepFlags (bitSet .o5)) .c 8 s

/-- `SET 5,D` (R721). -/
def execCbSet5D (s : State) : Out := modifyReg (keepFlags (bitSet .o5)) .d 8 s

/-- `SET 5,E` (R721). -/
def execCbSet5E (s : State) : Out := modifyReg (keepFlags (bitSet .o5)) .e 8 s

/-- `SET 5,H` (R721). -/
def execCbSet5H (s : State) : Out := modifyReg (keepFlags (bitSet .o5)) .h 8 s

/-- `SET 5,L` (R721). -/
def execCbSet5L (s : State) : Out := modifyReg (keepFlags (bitSet .o5)) .l 8 s

/-- `SET 5,(HL)` (R721). -/
def execCbSet5IndHl (s : State) : Out := modifyHl (keepFlags (bitSet .o5)) 16 s

/-- `SET 5,A` (R721). -/
def execCbSet5A (s : State) : Out := modifyReg (keepFlags (bitSet .o5)) .a 8 s

/-- `SET 6,B` (R721). -/
def execCbSet6B (s : State) : Out := modifyReg (keepFlags (bitSet .o6)) .b 8 s

/-- `SET 6,C` (R721). -/
def execCbSet6C (s : State) : Out := modifyReg (keepFlags (bitSet .o6)) .c 8 s

/-- `SET 6,D` (R721). -/
def execCbSet6D (s : State) : Out := modifyReg (keepFlags (bitSet .o6)) .d 8 s

/-- `SET 6,E` (R721). -/
def execCbSet6E (s : State) : Out := modifyReg (keepFlags (bitSet .o6)) .e 8 s

/-- `SET 6,H` (R721). -/
def execCbSet6H (s : State) : Out := modifyReg (keepFlags (bitSet .o6)) .h 8 s

/-- `SET 6,L` (R721). -/
def execCbSet6L (s : State) : Out := modifyReg (keepFlags (bitSet .o6)) .l 8 s

/-- `SET 6,(HL)` (R721). -/
def execCbSet6IndHl (s : State) : Out := modifyHl (keepFlags (bitSet .o6)) 16 s

/-- `SET 6,A` (R721). -/
def execCbSet6A (s : State) : Out := modifyReg (keepFlags (bitSet .o6)) .a 8 s

/-- `SET 7,B` (R721). -/
def execCbSet7B (s : State) : Out := modifyReg (keepFlags (bitSet .o7)) .b 8 s

/-- `SET 7,C` (R721). -/
def execCbSet7C (s : State) : Out := modifyReg (keepFlags (bitSet .o7)) .c 8 s

/-- `SET 7,D` (R721). -/
def execCbSet7D (s : State) : Out := modifyReg (keepFlags (bitSet .o7)) .d 8 s

/-- `SET 7,E` (R721). -/
def execCbSet7E (s : State) : Out := modifyReg (keepFlags (bitSet .o7)) .e 8 s

/-- `SET 7,H` (R721). -/
def execCbSet7H (s : State) : Out := modifyReg (keepFlags (bitSet .o7)) .h 8 s

/-- `SET 7,L` (R721). -/
def execCbSet7L (s : State) : Out := modifyReg (keepFlags (bitSet .o7)) .l 8 s

/-- `SET 7,(HL)` (R721). -/
def execCbSet7IndHl (s : State) : Out := modifyHl (keepFlags (bitSet .o7)) 16 s

/-- `SET 7,A` (R721). -/
def execCbSet7A (s : State) : Out := modifyReg (keepFlags (bitSet .o7)) .a 8 s

end Sys2Proof.Machine
end

