-- ==== Sys2Proof/Machine/System.lean ====
section
/-! DEFINITION. System and CPU-control instructions (45_system.md R900-R905): one meaning for each instruction. -/

namespace Sys2Proof.Machine

/-- What HALT does (R901): halt, or arm the HALT bug when IME = 0 and an interrupt is pending. -/
def State.enterHalt (s : State) : State :=
  if s.cpu.ime = true ∨ s.pending = 0 then s.setRun .halted else s.setHaltBug true

/-- What STOP does (R902): `div_counter <- 0; run <- STOPPED`. -/
def State.enterStop (s : State) : State :=
  State.setRun { s with timer := { s.timer with divCounter := 0 } } .stopped

/-- `NOP` (R900). -/
def execNop (s : State) : Out := .next (s.tick 4)

/-- `STOP` (R902). -/
def execStop (_n : Byte) (s : State) : Out := .next (s.enterStop.tick 4)

/-- Illegal opcode D3 (R905). -/
def execIllegalD3 (s : State) : Out := illegalOp 0xD3 s

/-- Illegal opcode DB (R905). -/
def execIllegalDB (s : State) : Out := illegalOp 0xDB s

/-- Illegal opcode DD (R905). -/
def execIllegalDD (s : State) : Out := illegalOp 0xDD s

/-- Illegal opcode E3 (R905). -/
def execIllegalE3 (s : State) : Out := illegalOp 0xE3 s

/-- Illegal opcode E4 (R905). -/
def execIllegalE4 (s : State) : Out := illegalOp 0xE4 s

/-- Illegal opcode EB (R905). -/
def execIllegalEB (s : State) : Out := illegalOp 0xEB s

/-- Illegal opcode EC (R905). -/
def execIllegalEC (s : State) : Out := illegalOp 0xEC s

/-- Illegal opcode ED (R905). -/
def execIllegalED (s : State) : Out := illegalOp 0xED s

/-- `DI` (R903). -/
def execDi (s : State) : Out := .next (((s.setIme false).setEiPending false).tick 4)

/-- Illegal opcode F4 (R905). -/
def execIllegalF4 (s : State) : Out := illegalOp 0xF4 s

/-- `EI` (R904). -/
def execEi (s : State) : Out := .next ((s.setEiPending true).tick 4)

/-- Illegal opcode FC (R905). -/
def execIllegalFC (s : State) : Out := illegalOp 0xFC s

/-- Illegal opcode FD (R905). -/
def execIllegalFD (s : State) : Out := illegalOp 0xFD s

/-- `HALT` (R901). -/
def execHalt (s : State) : Out := .next (s.enterHalt.tick 4)

end Sys2Proof.Machine
end

