-- ==== Sys2Proof/Machine/Fetch.lean ====
section
/-! DEFINITION. Fetching an instruction (30_encoding.md R300-R303, 60_exceptions.md R1031), and placing one where the next fetch
finds it. -/

namespace Sys2Proof.Machine

/-- The state after the opcode fetch: PC past the opcode byte, unless the HALT-bug latch is set, which is cleared (R300, R1031). -/
def State.afterOpcode (s : State) : State :=
  let s1 := s.afterRead s.cpu.pc
  { s1 with cpu := { s1.cpu with
      opAddr := s.cpu.pc
      pc := if s.cpu.haltBug then s.cpu.pc else s.cpu.pc + 1
      haltBug := false } }

/-- The state after `Fetch8()` (00_scope.md R12). -/
def State.afterFetch8 (s : State) : State := (s.afterRead s.cpu.pc).setPc (s.cpu.pc + 1)

/-- The opcode byte the next fetch reads (R300). -/
def State.opcode (s : State) : Byte := s.peek s.cpu.pc

/-- The second byte of the instruction (R301, R302). -/
def State.byte2 (s : State) : Byte := s.afterOpcode.peek s.afterOpcode.cpu.pc

/-- The third byte of the instruction (R302). -/
def State.byte3 (s : State) : Byte := s.afterOpcode.afterFetch8.peek s.afterOpcode.afterFetch8.cpu.pc

/-- The bytes the next fetch reads, as many as the first byte says (R303). -/
def State.fetchedBytes (s : State) : List Byte :=
  if instrLength s.opcode = 1 then [s.opcode]
  else if instrLength s.opcode = 2 then [s.opcode, s.byte2]
  else [s.opcode, s.byte2, s.byte3]

/-- The instruction the next fetch reads (R301, R302). -/
def State.fetchedInstr (s : State) : Instr :=
  if instrLength s.opcode = 1 then decodeFetched s.opcode 0 0
  else if instrLength s.opcode = 2 then decodeFetched s.opcode s.byte2 0
  else decodeFetched s.opcode s.byte2 s.byte3

/-- The state after the instruction's bytes are fetched, PC past them (R302). -/
def State.afterFetch (s : State) : State :=
  if instrLength s.opcode = 1 then s.afterOpcode
  else if instrLength s.opcode = 2 then s.afterOpcode.afterFetch8
  else s.afterOpcode.afterFetch8.afterFetch8

/-- A ROM image with byte `i` replaced, grown to hold it. -/
def romPatch (r : RomImage) (i : Nat) (v : Byte) : RomImage :=
  { length := max r.length (i + 1), cells := Memory.write r.cells i v }

/-- Put a byte where a read of `a` finds it: into the ROM image for a ROM address, which stands for Load (log 2), else into the
memory place. I/O and unused addresses hold no program. -/
def State.placeByte (s : State) (a : Word) (v : Byte) : State :=
  match region a with
  | .rom0 =>
    { s with launch := { s.launch with rom := romPatch s.launch.rom (s.bank0 * 0x4000 + a.toNat) v } }
  | .romX =>
    { s with launch := { s.launch with rom := romPatch s.launch.rom (s.bankX * 0x4000 + (a.toNat - 0x4000)) v } }
  | .vram => s.storeAt a v
  | .extRam => s.storeAt a v
  | .wram => s.storeAt a v
  | .echo => s.storeAt a v
  | .oam => s.storeAt a v
  | .hram => s.storeAt a v
  | .ie => { s with intr := { s.intr with ie := v } }
  | .unused => s
  | .io => s

/-- Put bytes at rising addresses. -/
def State.placeBytes (s : State) (a : Word) : List Byte → State
  | [] => s
  | v :: vs => State.placeBytes (s.placeByte a v) (a + 1) vs

/-- The state with an instruction, given by the opcode table's bits, at PC, where the next step fetches. -/
def State.placeFetchWord (s : State) (nbits w : Nat) : State := s.placeBytes s.cpu.pc (tableBytes nbits w)

end Sys2Proof.Machine
end

