-- ==== Sys2Proof/Machine/Engine.lean ====
section
/-! DEFINITION. The step algorithm (60_exceptions.md R1000). The T-cycles a step returns are the rise of `cycles` (log 11). -/

namespace Sys2Proof.Machine

/-- The EI delay: IME becomes 1 after the instruction that follows EI (R1040). -/
def State.endEiDelay (arm : Bool) (s : State) : State :=
  if arm && s.cpu.eiPending then (s.setIme true).setEiPending false else s

/-- `AdvanceDevices(t); cycles += t`, t being the cost counted between two states and `extra` (R1000, R1002). -/
def State.finishStep (extra : Nat) (start done : State) : State :=
  State.advanceDevices (extra + (done.cycles - start.cycles)) (done.tick extra)

/-- DecodeError undoes the step: everything as at its start but `run`, `fault` and PC (R1050). -/
def State.undoStep (start raised : State) : State :=
  { start with cpu := { start.cpu with run := .faulted, fault := raised.cpu.fault, pc := raised.cpu.pc } }

/-- The state after the instruction's own effect: the step undone on a DecodeError, else EI delay and devices. -/
def State.completeStep (extra : Nat) (start done : State) : State :=
  if done.cpu.run = .faulted then State.undoStep start done
  else State.finishStep extra start (State.endEiDelay start.cpu.eiPending done)

/-- Step 3 of R1000: fetch, decode, execute. -/
def State.runInstruction (extra : Nat) (s : State) : Out :=
  match exec s.fetchedInstr s.afterFetch with
  | .next done => .next (State.completeStep extra s done)
  | .fault f => .fault f
  | .refused r => .refused r

/-- Steps 2 and 3 of R1000: dispatch a pending interrupt when IME = 1, else run one instruction. -/
def State.stepAwake (extra : Nat) (s : State) : Out :=
  if s.cpu.ime = true ∧ s.pending ≠ 0 then .next (State.finishStep extra s s.takeInterrupt)
  else s.runInstruction extra

/-- `Step()` (R1000, R1030, R1032, R1053). -/
def State.stepOnce (s : State) : Out :=
  match s.cpu.run with
  | .faulted => .next s
  | .stopped =>
    if joypadLines s.joypad = 0xF#4 then .next (s.tick 4) else State.stepAwake 0 (s.setRun .running)
  | .halted =>
    if s.pending = 0 then .next ((State.advanceDevices 4 s).tick 4)
    else State.stepAwake s.launch.params.haltWakeExtraT (s.setRun .running)
  | .running => State.stepAwake 0 s

end Sys2Proof.Machine
end

