-- ==== Sys2Proof/Machine/Step.lean ====
section
/-! DEFINITION. The step, and the state whose next step runs a given instruction. -/

namespace Sys2Proof.Machine

/-- One `Step()` of the machine (60_exceptions.md R1000). -/
def step (s : State) : Host.Outcome State Fault Refusal := s.stepOnce

/-- The T-cycles that the step from `s` to `t` returns (R1000, log 11). -/
def stepCycles (s t : State) : Nat := t.cycles - s.cycles

/-- `s` with the instruction whose table bits are `w` stored where `step` fetches next. -/
def State.withFetchWord (s : State) (nbits w : Nat) : State := s.placeFetchWord nbits w

end Sys2Proof.Machine
end

