-- ==== Sys2Proof/WellFormed.lean ====
section
/-! DEFINITION. Well-formedness: of an instruction, and of what a launch fixes. -/

namespace Sys2Proof

/-- An instruction is well formed whenever it can be written down: its constructor fixes registers, conditions, bit number
and target, and its immediates have exactly the encoding's widths, so no value of `Instr` lacks an encoding (R305, R320, R341). -/
def Instr.wellFormed (_ : Instr) : Bool := true

/-- The pixel transfer fits in a line (60_exceptions.md R1105). -/
def Params.wellFormed (p : Params) : Bool := 80 + p.mode3T ≤ 455

/-- The bank count is one the header can declare: 2, 4, ..., 512 (20_memory.md R251). -/
def Cartridge.romBanksOk (c : Cartridge) : Bool := c.romBanks ∈ [2, 4, 8, 16, 32, 64, 128, 256, 512]

/-- The RAM size is one the header can declare (R252). -/
def Cartridge.ramSizeOk (c : Cartridge) : Bool := c.ramSize ∈ [0, 2048, 8192, 32768, 65536, 131072]

/-- Only an MBC5 cartridge has the rumble motor (R250). -/
def Cartridge.rumbleOk (c : Cartridge) : Bool := !c.rumble || c.mapper == .mbc5

/-- A cartridge Load can produce (R250-R252). -/
def Cartridge.wellFormed (c : Cartridge) : Bool := c.romBanksOk && c.ramSizeOk && c.rumbleOk

/-- The ROM image holds at least a header (R251). -/
def RomImage.lengthOk (r : RomImage) : Bool := 0x150 ≤ r.length

/-- A launch that Load accepts, with parameters the rules allow. -/
def Launch.wellFormed (l : Launch) : Bool := l.rom.lengthOk && l.cart.wellFormed && l.params.wellFormed

end Sys2Proof
end

