-- ==== Sys2Proof/Machine/HostOps.lean ====
section
/-! DEFINITION. The operations the host calls between steps (60_exceptions.md R1095-R1097): Load (70_reset_and_hazards.md R1200),
RunFrame, Framebuffer, Fault, Snapshot and Restore. `SetButtons` is `State.setButtons`. -/

namespace Sys2Proof.Machine

/-- A row of the mapper table (20_memory.md R250). -/
structure MapperType where
  mapper : Mapper
  ram : Bool
  battery : Bool
  rumble : Bool
deriving DecidableEq, Repr

/-- The supported mapper-type bytes (R250). -/
def mapperType (t : Byte) : Option MapperType :=
  if t = 0x00 then some { mapper := .romOnly, ram := false, battery := false, rumble := false }
  else if t = 0x08 then some { mapper := .romOnly, ram := true, battery := false, rumble := false }
  else if t = 0x09 then some { mapper := .romOnly, ram := true, battery := true, rumble := false }
  else if t = 0x01 then some { mapper := .mbc1, ram := false, battery := false, rumble := false }
  else if t = 0x02 then some { mapper := .mbc1, ram := true, battery := false, rumble := false }
  else if t = 0x03 then some { mapper := .mbc1, ram := true, battery := true, rumble := false }
  else if t = 0x11 then some { mapper := .mbc3, ram := false, battery := false, rumble := false }
  else if t = 0x12 then some { mapper := .mbc3, ram := true, battery := false, rumble := false }
  else if t = 0x13 then some { mapper := .mbc3, ram := true, battery := true, rumble := false }
  else if t = 0x19 then some { mapper := .mbc5, ram := false, battery := false, rumble := false }
  else if t = 0x1A then some { mapper := .mbc5, ram := true, battery := false, rumble := false }
  else if t = 0x1B then some { mapper := .mbc5, ram := true, battery := true, rumble := false }
  else if t = 0x1C then some { mapper := .mbc5, ram := false, battery := false, rumble := true }
  else if t = 0x1D then some { mapper := .mbc5, ram := true, battery := false, rumble := true }
  else if t = 0x1E then some { mapper := .mbc5, ram := true, battery := true, rumble := true }
  else none

/-- `rom_banks` of a ROM-size byte: 2 << code, codes 0x00-0x08 (R251). -/
def romBanksOf (code : Byte) : Option Nat := if code.toNat ≤ 0x08 then some (2 <<< code.toNat) else none

/-- The RAM size of a RAM-size byte, codes 0x00-0x05 (R252). -/
def ramSizeOf (code : Byte) : Option Nat :=
  if code = 0x00 then some 0
  else if code = 0x01 then some 2048
  else if code = 0x02 then some 8192
  else if code = 0x03 then some 32768
  else if code = 0x04 then some 131072
  else if code = 0x05 then some 65536
  else none

/-- ParseHeader (R251, R252): a type without external RAM has none whatever the RAM-size byte says. -/
def parseHeader (rom : RomImage) : Except Fault Cartridge :=
  match mapperType (romByte rom 0x147), romBanksOf (romByte rom 0x148), ramSizeOf (romByte rom 0x149) with
  | none, _, _ => .error (.loadUnsupportedMapper (romByte rom 0x147))
  | some _, none, _ => .error .loadBadHeader
  | some _, some _, none => .error .loadBadHeader
  | some t, some banks, some size =>
    .ok { mapper := t.mapper, rumble := t.rumble, battery := t.battery, romBanks := banks
          ramSize := if t.ram then size else 0 }

/-- `Load(rom)` with the launch arguments (R1200): a new machine, or LoadError. -/
def load (rom : RomImage) (params : Params) (args : InitArgs) : Out :=
  if rom.length < 0x0150 then .fault .loadTruncated
  else
    match parseHeader rom with
    | .error f => .fault f
    | .ok cart => .next (State.afterLoad { rom := rom, cart := cart, params := params } args)

/-- The loop of `RunFrame()`: step until a frame completes, a fault, or 70224 T-cycles (R1096). `fuel` bounds the steps. -/
def runFrameLoop : Nat → Nat → State → Out
  | 0, _, s => .next s
  | fuel + 1, total, s =>
    match step s with
    | .next t =>
      if t.ppu.frameComplete = true ∨ t.cpu.run = .faulted ∨ 70224 ≤ total + stepCycles s t then .next t
      else runFrameLoop fuel (total + stepCycles s t) t
    | .fault f => .fault f
    | .refused r => .refused r

/-- `RunFrame()` (R1096): a step that does not fault costs at least 4 T-cycles, so 17556 steps reach the bound. -/
def runFrame (s : State) : Out :=
  runFrameLoop 17556 0 { s with ppu := { s.ppu with frameComplete := false } }

/-- `Framebuffer()`: the last completed frame (R1117). -/
def framebufferView (s : State) : Frame := s.ppu.lastFrame

/-- `Fault()`: the fault record, empty unless FAULTED (R1095). -/
def faultView (s : State) : Option FaultRecord := if s.cpu.run = .faulted then s.cpu.fault else none

/-- `Snapshot()`: the whole state (R1097). -/
def snapshot (s : State) : State := s

/-- `Restore(saved)`: replace the whole state (R1097); the ROM image, the header fields, the parameters and the draws are not state
(R165), so the running machine's stay. -/
def restore (saved current : State) : State := { saved with launch := current.launch, draws := current.draws }

end Sys2Proof.Machine
end

