-- ==== Sys2Proof/Safety.lean ====
section
/-! DEFINITION. What a well-formed state is: the facts that hold after Load and that every step keeps; the vocabulary in which
claims say what an operation leaves alone; and the pixels of a picture, written out for the claims about rendering. -/

namespace Sys2Proof.Machine

/-- A place where the machine has a storage byte: VRAM, WRAM, OAM, HRAM or cartridge RAM (10_state.md R162). -/
def placeOk (ramSize p : Nat) : Bool :=
  (0x8000 ≤ p && p ≤ 0x9FFF) || (0xC000 ≤ p && p ≤ 0xDFFF) || (0xFE00 ≤ p && p ≤ 0xFE9F) ||
    (0xFF80 ≤ p && p ≤ 0xFFFE) || (0x10000 ≤ p && p < 0x10000 + ramSize)

/-- Memory is in canonical form and lists only places that exist. -/
def State.memOk (s : State) : Bool :=
  Memory.wf s.mem && Memory.within (placeOk s.launch.cart.ramSize) s.mem

/-- The mode that a line and a dot have while the LCD is on (60_exceptions.md R1100). -/
def lineMode (mode3T ly dot : Nat) : PpuMode :=
  if 144 ≤ ly then .vblank
  else if dot < 80 then .oamScan
  else if dot < 80 + mode3T then .pixelTransfer
  else .hblank

/-- A picture has 144 rows of 160 shades (R1117). -/
def Frame.shaped (f : Frame) : Bool := f.length == 144 && f.all (fun row => row.length == 160)

/-- LY, dot and mode are where R1100 puts them; with the LCD off they are 0, 0 and H-blank (R1118). -/
def State.ppuPositionOk (s : State) : Bool :=
  decide (s.ppu.dot < 456) && decide (s.ppu.ly.toNat < 154) &&
    if s.lcdOn then s.ppu.mode == lineMode s.launch.params.mode3T s.ppu.ly.toNat s.ppu.dot
    else s.ppu.mode == .hblank && s.ppu.ly == 0 && s.ppu.dot == 0

/-- While the LCD is on, STAT bit 2 says whether LY = LYC (R1106). -/
def State.coincidenceOk (s : State) : Bool :=
  !s.lcdOn || s.ppu.statCoincidence == decide (s.ppu.ly = s.ppu.lyc)

/-- The window line counter is at most the line, and 0 in V-blank (R1114). -/
def State.winLineOk (s : State) : Bool :=
  if s.ppu.ly.toNat < 144 then decide (s.ppu.winLine ≤ s.ppu.ly.toNat) else s.ppu.winLine == 0

/-- Both pictures have their shape (R1117). -/
def State.framesOk (s : State) : Bool := s.ppu.framebuffer.shaped && s.ppu.lastFrame.shaped

/-- The PPU's facts. -/
def State.ppuOk (s : State) : Bool := s.ppuPositionOk && s.coincidenceOk && s.winLineOk && s.framesOk

/-- The CPU's latches: a fault record exactly when FAULTED (10_state.md R125), `halt_bug` only while RUNNING or FAULTED (R123), no
pending EI while HALTED or STOPPED (60_exceptions.md R1040). -/
def State.controlOk (s : State) : Bool :=
  (s.cpu.fault.isSome == (s.cpu.run == .faulted)) &&
    (!s.cpu.haltBug || s.cpu.run == .running || s.cpu.run == .faulted) &&
    (!s.cpu.eiPending || s.cpu.run == .running || s.cpu.run == .faulted)

/-- The mapper registers hold values their writes can produce (20_memory.md R255, R259, R261). -/
def State.mapperOk (s : State) : Bool :=
  s.mapper.lower != 0 &&
    (s.launch.cart.mapper == .mbc5 || (s.mapper.romBank != 0 && decide (s.mapper.romBank.toNat < 0x80))) &&
    (s.launch.cart.mapper != .mbc5 || decide (s.mapper.ramSel.toNat ≤ if s.launch.cart.rumble then 7 else 15))

/-- A well-formed state. -/
def State.Inv (s : State) : Bool := s.memOk && s.ppuOk && s.controlOk && s.mapperOk

/-! ## What is left alone -/

/-- The parts of the CPU that an operation may write. -/
structure Footprint where
  regs : List R8 := []
  flags : Bool := false
  sp : Bool := false
  pc : Bool := false
  ime : Bool := false
  eiPending : Bool := false
  run : Bool := false
  haltBug : Bool := false
deriving DecidableEq, Repr

/-- From `s` to `t` the CPU differs only inside the footprint; the fault record is never inside one. -/
def State.keepsCpu (s : State) (w : Footprint) (t : State) : Prop :=
  (∀ r, r ∉ w.regs → t.getR r = s.getR r) ∧
    (w.flags = false → t.cpu.f = s.cpu.f) ∧ (w.sp = false → t.cpu.sp = s.cpu.sp) ∧
    (w.pc = false → t.cpu.pc = s.cpu.pc) ∧ (w.ime = false → t.cpu.ime = s.cpu.ime) ∧
    (w.eiPending = false → t.cpu.eiPending = s.cpu.eiPending) ∧ (w.run = false → t.cpu.run = s.cpu.run) ∧
    (w.haltBug = false → t.cpu.haltBug = s.cpu.haltBug) ∧ t.cpu.fault = s.cpu.fault ∧ t.cpu.opAddr = s.cpu.opAddr

/-- From `s` to `t` no register of a device, of the bus or of the mapper changes, nor IF, IE or the launch. -/
def State.keepsDevices (s t : State) : Prop :=
  t.intr = s.intr ∧ t.timer = s.timer ∧ t.joypad = s.joypad ∧ t.serial = s.serial ∧ t.ppu = s.ppu ∧
    t.dma = s.dma ∧ t.mapper = s.mapper ∧ t.launch = s.launch

/-- From `s` to `t` every memory place, and every address outside the audio range, reads as before. -/
def State.keepsMemory (s t : State) : Prop :=
  (∀ p, Memory.read t.mem p = Memory.read s.mem p) ∧ ∀ a, isAudio a = false → t.peek a = s.peek a

/-- Place `p` is one that a bus write to `a` may store in: the place `a` names, or an OAM byte when `a` is the DMA register. -/
def State.writeReaches (s : State) (a : Word) (p : Nat) : Prop :=
  s.place a = some p ∨ (a = 0xFF46#16 ∧ 0xFE00 ≤ p ∧ p ≤ 0xFE9F)

/-- The addresses where a write only stores: VRAM, external RAM, WRAM, echo, OAM, the unused range and HRAM. -/
def isPlain (a : Word) : Bool :=
  region a ∈ [Region.vram, Region.extRam, Region.wram, Region.echo, Region.oam, Region.unused, Region.hram]

/-- From `s` to `t` at most a bus write to `a` happened: every place it does not reach reads as before; the launch, the buttons
and the cartridge's ROM are as before; and when `a` is plain, so is every device register, and every address that does not share
`a`'s place reads as before. -/
def State.writesOnlyAt (s : State) (a : Word) (t : State) : Prop :=
  (∀ p, ¬ s.writeReaches a p → Memory.read t.mem p = Memory.read s.mem p) ∧
    t.launch = s.launch ∧ t.joypad.buttons = s.joypad.buttons ∧
    (isPlain a = true → s.keepsDevices t ∧
      ∀ b, isAudio b = false → (∀ p, s.place a = some p → s.place b ≠ some p) → t.peek b = s.peek b)

/-- From `s` to `t` at most bus writes to `a` and to `b` happened: every place that neither reaches reads as before; and when both
are plain, so is every device register, and every address that shares neither's place reads as before. -/
def State.writesOnlyAtTwo (s : State) (a b : Word) (t : State) : Prop :=
  (∀ p, ¬ s.writeReaches a p → ¬ s.writeReaches b p → Memory.read t.mem p = Memory.read s.mem p) ∧
    t.launch = s.launch ∧ t.joypad.buttons = s.joypad.buttons ∧
    (isPlain a = true → isPlain b = true → s.keepsDevices t ∧
      ∀ x, isAudio x = false → (∀ p, s.place a = some p → s.place x ≠ some p) →
        (∀ p, s.place b = some p → s.place x ≠ some p) → t.peek x = s.peek x)

/-! ## A picture's pixels, from memory bytes and register bits -/

/-- The colour index, 0 to 3, of row `row`, column `col` of the tile whose data starts at VRAM offset `base` (R1111). -/
def State.tileColour (s : State) (base row col : Nat) : Nat :=
  (Memory.read s.mem (0x8000 + base + 2 * row + 1)).toNat / 2 ^ (7 - col) % 2 * 2 +
    (Memory.read s.mem (0x8000 + base + 2 * row)).toNat / 2 ^ (7 - col) % 2

/-- The colour index at map coordinates `px`, `py` of the tile map at VRAM offset `map`: the tile data is at 16 · t from 0x8000 when
LCDC[4] = 1, and at 16 · s8(t) from 0x9000 when it is 0 (R1111). -/
def State.mapColour (s : State) (map px py : Nat) : Nat :=
  let t := Memory.read s.mem (0x8000 + map + 32 * (py / 8) + px / 8)
  s.tileColour (if s.ppu.lcdc.getLsbD 4 = true then 16 * t.toNat else ((0x1000 : Int) + 16 * t.toInt).toNat) (py % 8) (px % 8)

/-- The window is on line `y`: LCDC[0] and [5], WY ≤ y, WX ≤ 166; it starts at column WX - 7 (R1113). -/
def State.windowOn (s : State) (y : Nat) : Prop :=
  s.ppu.lcdc.getLsbD 0 = true ∧ s.ppu.lcdc.getLsbD 5 = true ∧ s.ppu.wy.toNat ≤ y ∧ s.ppu.wx.toNat ≤ 166

/-- `c` is the background or window colour index of column `x` of line `y` (R1112, R1113). -/
def State.isBackColour (s : State) (y x c : Nat) : Prop :=
  (s.ppu.lcdc.getLsbD 0 = false → c = 0) ∧
  (s.ppu.lcdc.getLsbD 0 = true → ¬ (s.windowOn y ∧ s.ppu.wx.toNat ≤ x + 7) →
    c = s.mapColour (if s.ppu.lcdc.getLsbD 3 = true then 0x1C00 else 0x1800)
      ((x + s.ppu.scx.toNat) % 256) ((y + s.ppu.scy.toNat) % 256)) ∧
  (s.windowOn y → s.ppu.wx.toNat ≤ x + 7 →
    c = s.mapColour (if s.ppu.lcdc.getLsbD 6 = true then 0x1C00 else 0x1800) (x + 7 - s.ppu.wx.toNat) s.ppu.winLine)

/-- Byte `j` of OAM entry `i`: Y + 16, X + 8, tile, attributes (R1115). -/
def State.oamField (s : State) (i j : Nat) : Byte := Memory.read s.mem (0xFE00 + 4 * i + j)

/-- The height of an object (R1115). -/
def State.objRows (s : State) : Nat := if s.ppu.lcdc.getLsbD 2 = true then 16 else 8

/-- OAM entry `i` is on line `y`: Y - 16 ≤ y < Y - 16 + h (R1116 a). -/
def State.entryOnLine (s : State) (y i : Nat) : Bool :=
  decide ((s.oamField i 0).toNat ≤ y + 16 ∧ y + 16 < (s.oamField i 0).toNat + s.objRows)

/-- OAM entry `i` is selected on line `y`: it is on the line, and fewer than `SPRITES_PER_LINE` earlier entries are (R1116 a). -/
def State.entrySelected (s : State) (y i : Nat) : Prop :=
  i < 40 ∧ s.entryOnLine y i = true ∧ ((List.range i).filter (s.entryOnLine y)).length < s.launch.params.spritesPerLine

/-- The colour index of OAM entry `i` at column `x` of line `y`, both inside it: flips by attribute bits 6 and 5, and in 8 × 16 mode
the top tile even, the bottom one odd (R1115, R1116 c). -/
def State.entryColour (s : State) (y x i : Nat) : Nat :=
  let attr := s.oamField i 3
  let r0 := y + 16 - (s.oamField i 0).toNat
  let c0 := x + 8 - (s.oamField i 1).toNat
  let r := if attr.getLsbD 6 = true then s.objRows - 1 - r0 else r0
  let c := if attr.getLsbD 5 = true then 7 - c0 else c0
  let t := (s.oamField i 2).toNat
  s.tileColour (16 * (if s.objRows = 16 then t / 2 * 2 + r / 8 else t)) (r % 8) c

/-- OAM entry `i` is a candidate for column `x` of line `y`: objects are on, it is selected, it covers the column, and its pixel there
is not transparent (R1116 b, c). -/
def State.candidate (s : State) (y x i : Nat) : Prop :=
  s.ppu.lcdc.getLsbD 1 = true ∧ s.entrySelected y i ∧ (s.oamField i 1).toNat ≤ x + 8 ∧ x < (s.oamField i 1).toNat ∧
    s.entryColour y x i ≠ 0

/-- Two bits of a palette (R1117). -/
def paletteShade (palette : Byte) (k : Nat) : Nat := palette.toNat / 4 ^ k % 4

end Sys2Proof.Machine
end

