-- ==== Sys2Proof/Certificates/Slice0/Obligations.lean ====
section
/-! DEFINITION. The statements for the provers, each from the rules its docstring names. The statements about an instruction take
the state after its bytes are fetched, PC past it (30_encoding.md R302). -/

open Sys2Proof Sys2Proof.Machine

/-! ## Encoding -/

/-- R301-R303, R320, R330, R331: decoding an encoded instruction, whatever bytes follow it, gives the instruction and those bytes,
for every instruction and every operand. -/
def Obligations.DecodeOfEncodeIsTheInstruction : Prop :=
  ∀ (i : Instr) (rest : List Byte), decode (encode i ++ rest) = .ok (i, rest)

/-- R303, R330, R331, R341: whatever bytes decode, they are the decoded instruction's encoding followed by the rest: no two byte
strings that differ in the instruction decode alike, and every bit is kept. -/
def Obligations.DecodedBytesEncodeBack : Prop :=
  ∀ (bs : List Byte) (i : Instr) (rest : List Byte), decode bs = .ok (i, rest) → bs = encode i ++ rest

/-- Words written out from the spec's encodings: R401 `LD A,B` 01 111 000; R404 `LD (HL),H` 01 110 100; R420 `LD SP,d16`
00 11 0001; R513 `SBC A,H` 10 011 100; R601 `ADD HL,HL` 00 10 1001; R719 `BIT 7,H` CB 01 111 100; R721 `SET 3,(HL)`
CB 11 011 110; R805 `JR NC,e8` 00 110 000; R811 `RST 28H` 11 101 111; R901 `HALT` 01 110 110; R902 `STOP` 10 xx. -/
def Obligations.WordsOfTheSpecDecode : Prop :=
  decode [0b01111000] = .ok (.ldAB, []) ∧
    decode [0b01110100] = .ok (.ldIndHlH, []) ∧
    decode [0b00110001, 0xFE, 0xFF] = .ok (.ldSpD16 0xFFFE, []) ∧
    decode [0b10011100] = .ok (.sbcAH, []) ∧
    decode [0b00101001] = .ok (.addHlHl, []) ∧
    decode [0b11001011, 0b01111100] = .ok (.cbBit7H, []) ∧
    decode [0b11001011, 0b11011110] = .ok (.cbSet3IndHl, []) ∧
    decode [0b00110000, 0b11111110] = .ok (.jrNcE8 0xFE, []) ∧
    decode [0b11101111] = .ok (.rst28, []) ∧
    decode [0b01110110] = .ok (.halt, []) ∧
    decode [0b00010000, 0x5A] = .ok (.stop 0x5A, [])

/-! ## Loads, stores and stack transfers (40_load.md) -/

/-- R401-R403: `LD r,r'` for every r and r' (r = r' changes nothing but the cycles), `LD r,d8`, and `LD r,(HL)`, whose byte is the
bus's at the HL before the load, r = H or L included. -/
def Obligations.LoadsOfARegister : Prop :=
  ∀ (r : R8) (s : State),
    (∀ r' : R8, encode (Instr.ldRegReg r r') = [0b01#2 ++ r.code ++ r'.code] ∧
      ∃ t, exec (Instr.ldRegReg r r') s = .next t ∧ t.getR r = s.getR r' ∧ t.cycles = s.cycles + 4 ∧
        s.keepsCpu { regs := [r] } t ∧ s.keepsDevices t ∧ s.keepsMemory t) ∧
    (∀ n : Byte, encode (Instr.ldRegD8 r n) = [0b00#2 ++ r.code ++ 0b110#3, n] ∧
      ∃ t, exec (Instr.ldRegD8 r n) s = .next t ∧ t.getR r = n ∧ t.cycles = s.cycles + 8 ∧
        s.keepsCpu { regs := [r] } t ∧ s.keepsDevices t ∧ s.keepsMemory t) ∧
    (encode (Instr.ldRegHl r) = [0b01#2 ++ r.code ++ 0b110#3] ∧
      ∃ t, exec (Instr.ldRegHl r) s = .next t ∧ t.getR r = s.peek s.hl ∧ t.cycles = s.cycles + 8 ∧
        s.keepsCpu { regs := [r] } t ∧ s.keepsDevices t ∧ s.keepsMemory t)

/-- R404, R405: `LD (HL),r` and `LD (HL),d8` are one bus write at HL; no CPU register or flag changes, and memory outside the byte
that HL names is unchanged. -/
def Obligations.StoreAtHl : Prop :=
  (∀ (r : R8) (s : State),
    encode (Instr.ldHlReg r) = [0b01110#5 ++ r.code] ∧
      ∃ t, exec (Instr.ldHlReg r) s = .next t ∧ t = (s.busWrite s.hl (s.getR r)).tick 8 ∧
        t.cpu = s.cpu ∧ s.writesOnlyAt s.hl t) ∧
  ∀ (n : Byte) (s : State),
    encode (.ldIndHlD8 n) = [0x36, n] ∧
      ∃ t, exec (.ldIndHlD8 n) s = .next t ∧ t = (s.busWrite s.hl n).tick 12 ∧ t.cpu = s.cpu ∧ s.writesOnlyAt s.hl t

/-- R406, R407, R410, R412, R414, R416, R418: the loads of A through BC, DE, an absolute address, 0xFF00 + C and 0xFF00 + n; and
`LD A,(HL-)` and `LD A,(HL+)`, which read at the HL before the step, HL wrapping modulo 65536. -/
def Obligations.LoadsOfTheAccumulator : Prop :=
  (∀ (s : State) (nn : Word) (n : Byte) (i : Instr) (bytes : List Byte) (addr : Word) (k : Nat),
    (i, bytes, addr, k) ∈ [
      (Instr.ldAIndBc, [0x0A#8], cat s.cpu.b s.cpu.c, 8),
      (Instr.ldAIndDe, [0x1A#8], cat s.cpu.d s.cpu.e, 8),
      (Instr.ldAIndA16 nn, [0xFA#8, lo nn, hi nn], nn, 16),
      (Instr.ldhAIndC, [0xF2#8], 0xFF#8 ++ s.cpu.c, 8),
      (Instr.ldhAIndA8 n, [0xF0#8, n], 0xFF#8 ++ n, 12)] →
    encode i = bytes ∧
      ∃ t, exec i s = .next t ∧ t.cpu.a = s.peek addr ∧ t.cycles = s.cycles + k ∧
        s.keepsCpu { regs := [.a] } t ∧ s.keepsDevices t ∧ s.keepsMemory t) ∧
  ∀ (s : State) (i : Instr) (byte : Byte) (by' : Word),
    (i, byte, by') ∈ [(Instr.ldAIndHld, 0x3A#8, 0xFFFF#16), (Instr.ldAIndHli, 0x2A#8, 1#16)] →
    encode i = [byte] ∧
      ∃ t, exec i s = .next t ∧ t.cpu.a = s.peek s.hl ∧ cat t.cpu.h t.cpu.l = s.hl + by' ∧ t.cycles = s.cycles + 8 ∧
        s.keepsCpu { regs := [.a, .h, .l] } t ∧ s.keepsDevices t ∧ s.keepsMemory t

/-- R408, R409, R411, R413, R415, R417, R419: the stores of A through BC, DE, an absolute address, 0xFF00 + C and 0xFF00 + n are one
bus write each, no CPU register or flag changing; `LD (HL-),A` and `LD (HL+),A` write at the HL before the step, HL wrapping modulo
65536. -/
def Obligations.StoresOfTheAccumulator : Prop :=
  (∀ (s : State) (nn : Word) (n : Byte) (i : Instr) (bytes : List Byte) (addr : Word) (k : Nat),
    (i, bytes, addr, k) ∈ [
      (Instr.ldIndBcA, [0x02#8], cat s.cpu.b s.cpu.c, 8),
      (Instr.ldIndDeA, [0x12#8], cat s.cpu.d s.cpu.e, 8),
      (Instr.ldIndA16A nn, [0xEA#8, lo nn, hi nn], nn, 16),
      (Instr.ldhIndCA, [0xE2#8], 0xFF#8 ++ s.cpu.c, 8),
      (Instr.ldhIndA8A n, [0xE0#8, n], 0xFF#8 ++ n, 12)] →
    encode i = bytes ∧
      ∃ t, exec i s = .next t ∧ t = (s.busWrite addr s.cpu.a).tick k ∧ t.cpu = s.cpu ∧ s.writesOnlyAt addr t) ∧
  ∀ (s : State) (i : Instr) (byte : Byte) (by' : Word),
    (i, byte, by') ∈ [(Instr.ldIndHldA, 0x32#8, 0xFFFF#16), (Instr.ldIndHliA, 0x22#8, 1#16)] →
    encode i = [byte] ∧
      ∃ t, exec i s = .next t ∧ t = ((s.busWrite s.hl s.cpu.a).setHl (s.hl + by')).tick 8 ∧
        s.keepsCpu { regs := [.h, .l] } t ∧ s.writesOnlyAt s.hl t

/-- The CPU registers of a pair field (R311). -/
def Sys2Proof.Machine.rpFootprint : Rp → Footprint
  | .bc => { regs := [.b, .c] }
  | .de => { regs := [.d, .e] }
  | .hl => { regs := [.h, .l] }
  | .sp => { sp := true }

/-- R420-R422: `LD rr,d16` writes the pair, high byte to the first-named register, or SP; `LD SP,HL` copies HL; `LD (a16),SP` writes
the low byte of SP at nn, then the high byte at nn + 1 modulo 65536. -/
def Obligations.SixteenBitLoads : Prop :=
  (∀ (nn : Word) (s : State) (r : Rp), encode (Instr.ldPairD16 r nn) = [0b00#2 ++ r.code ++ 0b0001#4, lo nn, hi nn] ∧
    ∃ t, exec (Instr.ldPairD16 r nn) s = .next t ∧ t.getRp r = nn ∧ t.cycles = s.cycles + 12 ∧
      s.keepsCpu (rpFootprint r) t ∧ s.keepsDevices t ∧ s.keepsMemory t) ∧
  (∀ s : State, encode .ldSpHl = [0xF9] ∧
    ∃ t, exec .ldSpHl s = .next t ∧ t.cpu.sp = cat s.cpu.h s.cpu.l ∧ t.cycles = s.cycles + 8 ∧
      s.keepsCpu { sp := true } t ∧ s.keepsDevices t ∧ s.keepsMemory t) ∧
  ∀ (nn : Word) (s : State), encode (.ldIndA16Sp nn) = [0x08, lo nn, hi nn] ∧
    ∃ t, exec (.ldIndA16Sp nn) s = .next t ∧
      t = ((s.busWrite nn (s.cpu.sp.extractLsb' 0 8)).busWrite (nn + 1) (s.cpu.sp.extractLsb' 8 8)).tick 20 ∧
      t.cpu = s.cpu ∧ s.writesOnlyAtTwo nn (nn + 1) t

/-- R423, R13: `PUSH rr` writes the high byte at SP - 1 and then the low byte at SP - 2, and leaves SP - 2 in SP; `PUSH AF` stores F
with bits 3-0 zero. -/
def Obligations.PushStoresThePair : Prop :=
  ∀ (r : Rp2) (s : State), encode (Instr.pushPair r) = [0b11#2 ++ r.code ++ 0b0101#4] ∧
    ∃ t, exec (Instr.pushPair r) s = .next t ∧
      t = (((s.busWrite (s.cpu.sp - 1) ((s.getRp2 r).extractLsb' 8 8)).busWrite (s.cpu.sp - 2)
        ((s.getRp2 r).extractLsb' 0 8)).setSp (s.cpu.sp - 2)).tick 16 ∧
      (r = .af → (s.getRp2 r).extractLsb' 0 4 = 0#4) ∧
      s.keepsCpu { sp := true } t ∧ s.writesOnlyAtTwo (s.cpu.sp - 1) (s.cpu.sp - 2) t

/-- R424, R425: `POP rr` reads the low byte at SP and the high byte at SP + 1, and leaves SP + 2 in SP; POP AF keeps bits 7-4 of the
low byte as Z, N, H, C. -/
def Obligations.PopLoadsThePair : Prop :=
  ∀ (r : Rp2) (s : State), encode (Instr.popPair r) = [0b11#2 ++ r.code ++ 0b0001#4] ∧
    ∃ t, exec (Instr.popPair r) s = .next t ∧
      t.cpu.sp = s.cpu.sp + 2 ∧ t.cycles = s.cycles + 12 ∧ s.keepsDevices t ∧ s.keepsMemory t ∧
      (match r with
        | .bc => t.cpu.b = (s.afterRead s.cpu.sp).peek (s.cpu.sp + 1) ∧ t.cpu.c = s.peek s.cpu.sp ∧
            s.keepsCpu { regs := [.b, .c], sp := true } t
        | .de => t.cpu.d = (s.afterRead s.cpu.sp).peek (s.cpu.sp + 1) ∧ t.cpu.e = s.peek s.cpu.sp ∧
            s.keepsCpu { regs := [.d, .e], sp := true } t
        | .hl => t.cpu.h = (s.afterRead s.cpu.sp).peek (s.cpu.sp + 1) ∧ t.cpu.l = s.peek s.cpu.sp ∧
            s.keepsCpu { regs := [.h, .l], sp := true } t
        | .af => t.cpu.a = (s.afterRead s.cpu.sp).peek (s.cpu.sp + 1) ∧
            t.cpu.f = { z := (s.peek s.cpu.sp).getLsbD 7, n := (s.peek s.cpu.sp).getLsbD 6
                        h := (s.peek s.cpu.sp).getLsbD 5, c := (s.peek s.cpu.sp).getLsbD 4 } ∧
            s.keepsCpu { regs := [.a], flags := true, sp := true } t)

/-- R13, R216, R423-R425: a pair pushed on plain storage that is not blocked and popped into any pair arrives there, byte for byte,
except that F keeps no bits 3-0; SP is back where it was. -/
def Obligations.PopAfterPushGivesThePair : Prop :=
  ∀ (r q : Rp2) (s : State),
    region (s.cpu.sp - 1) ∈ [Region.wram, Region.hram] → region (s.cpu.sp - 2) ∈ [Region.wram, Region.hram] →
    ∃ t u, exec (Instr.pushPair r) s = .next t ∧ exec (Instr.popPair q) t = .next u ∧ u.cpu.sp = s.cpu.sp ∧
      u.getRp2 q = if q = .af then s.getRp2 r &&& 0xFFF0#16 else s.getRp2 r

/-! ## 8-bit arithmetic (41_alu8.md) -/

/-- The ALU instruction with a source: `r`, `(HL)` or `d8` (R500). -/
def Sys2Proof.Machine.aluForm (op : Alu) : Src → Instr
  | .reg r => Instr.aluReg op r
  | .hl => Instr.aluHl op
  | .imm n => Instr.aluD8 op n

/-- The bytes of an ALU instruction (R305, R314, R500). -/
def Sys2Proof.Machine.aluBytes (op : Alu) : Src → List Byte
  | .reg r => [0b10#2 ++ op.code ++ r.code]
  | .hl => [0b10#2 ++ op.code ++ 0b110#3]
  | .imm n => [0b11#2 ++ op.code ++ 0b110#3, n]

/-- R500, R501, R510, R511: `ADD A,s` and `ADC A,s` on every source: the exact sum of A, s and the carry-in (0, or C), its remainder
modulo 256 in A, Z from it, N = 0, H the carry out of bit 3, C the carry out of bit 7. -/
def Obligations.AddAndAddWithCarry : Prop :=
  ∀ (op : Alu) (o : Src) (s : State), op = .add ∨ op = .adc →
    encode (aluForm op o) = aluBytes op o ∧
      ∃ t, exec (aluForm op o) s = .next t ∧
        (let a := s.cpu.a.toNat
         let v := (o.value s).toNat
         let c := if op = .adc ∧ s.cpu.f.c = true then 1 else 0
         t.cpu.a.toNat = (a + v + c) % 256 ∧
           t.cpu.f = { z := decide ((a + v + c) % 256 = 0), n := false, h := decide (a % 16 + v % 16 + c > 15)
                       c := decide (a + v + c > 255) }) ∧
        t.cycles = s.cycles + o.cost ∧
        s.keepsCpu { regs := [.a], flags := true } t ∧ s.keepsDevices t ∧ s.keepsMemory t

/-- R500, R502, R512, R513, R517: `SUB s`, `SBC A,s` and `CP s` on every source: the exact difference of A, s and the borrow-in (0,
or C), Z from its remainder modulo 256, N = 1, H the borrow into bit 3, C the borrow; SUB and SBC leave the remainder in A, CP leaves
A as it was. -/
def Obligations.SubtractAndCompare : Prop :=
  ∀ (op : Alu) (o : Src) (s : State), op = .sub ∨ op = .sbc ∨ op = .cp →
    encode (aluForm op o) = aluBytes op o ∧
      ∃ t, exec (aluForm op o) s = .next t ∧
        (let a : Int := s.cpu.a.toNat
         let v : Int := (o.value s).toNat
         let c : Int := if op = .sbc ∧ s.cpu.f.c = true then 1 else 0
         (t.cpu.a.toNat : Int) = (if op = .cp then a else (a - v - c) % 256) ∧
           t.cpu.f = { z := decide ((a - v - c) % 256 = 0), n := true, h := decide (a % 16 - v % 16 - c < 0)
                       c := decide (a - v - c < 0) }) ∧
        t.cycles = s.cycles + o.cost ∧
        s.keepsCpu { regs := [.a], flags := true } t ∧ s.keepsDevices t ∧ s.keepsMemory t

/-- R500, R514-R516: `AND s`, `XOR s` and `OR s` on every source, bit by bit; Z from the result, N = 0, H = 1 for AND and 0
otherwise, C = 0. -/
def Obligations.AndXorOr : Prop :=
  ∀ (op : Alu) (o : Src) (s : State), op = .and ∨ op = .xor ∨ op = .or →
    encode (aluForm op o) = aluBytes op o ∧
      ∃ t, exec (aluForm op o) s = .next t ∧
        (let a := s.cpu.a
         let v := o.value s
         (∀ k, k < 8 → t.cpu.a.getLsbD k =
             if op = .and then (a.getLsbD k && v.getLsbD k)
             else if op = .xor then (a.getLsbD k != v.getLsbD k) else (a.getLsbD k || v.getLsbD k)) ∧
           t.cpu.f = { z := decide (t.cpu.a.toNat = 0), n := false, h := decide (op = .and), c := false }) ∧
        t.cycles = s.cycles + o.cost ∧
        s.keepsCpu { regs := [.a], flags := true } t ∧ s.keepsDevices t ∧ s.keepsMemory t

/-- R518-R521: `INC r` and `DEC r`: the byte wraps modulo 256, Z from the result, N 0 for INC and 1 for DEC, H when the low nibble was
0xF (INC) or 0x0 (DEC), C unchanged; `INC (HL)` and `DEC (HL)` do the same to the byte at HL, by one read and then one write there, with
the write's own effect. -/
def Obligations.IncrementAndDecrement : Prop :=
  ∀ s : State,
    (∀ r : R8, encode (Instr.incReg r) = [0b00#2 ++ r.code ++ 0b100#3] ∧
      ∃ t, exec (Instr.incReg r) s = .next t ∧ (t.getR r).toNat = ((s.getR r).toNat + 1) % 256 ∧
        t.cpu.f = { z := decide ((s.getR r).toNat = 255), n := false, h := decide ((s.getR r).toNat % 16 = 15)
                    c := s.cpu.f.c } ∧
        t.cycles = s.cycles + 4 ∧ s.keepsCpu { regs := [r], flags := true } t ∧ s.keepsDevices t ∧ s.keepsMemory t) ∧
    (∀ r : R8, encode (Instr.decReg r) = [0b00#2 ++ r.code ++ 0b101#3] ∧
      ∃ t, exec (Instr.decReg r) s = .next t ∧ (t.getR r).toNat = ((s.getR r).toNat + 255) % 256 ∧
        t.cpu.f = { z := decide ((s.getR r).toNat = 1), n := true, h := decide ((s.getR r).toNat % 16 = 0)
                    c := s.cpu.f.c } ∧
        t.cycles = s.cycles + 4 ∧ s.keepsCpu { regs := [r], flags := true } t ∧ s.keepsDevices t ∧ s.keepsMemory t) ∧
    (encode .incIndHl = [0x34] ∧
      ∃ t, exec .incIndHl s = .next t ∧
        t = ((((s.afterRead s.hl).busWrite s.hl (BitVec.ofNat 8 ((s.peek s.hl).toNat + 1))).setFlags
          { z := decide ((s.peek s.hl).toNat = 255), n := false, h := decide ((s.peek s.hl).toNat % 16 = 15)
            c := s.cpu.f.c }).tick 12) ∧
        s.keepsCpu { flags := true } t ∧ s.writesOnlyAt s.hl t) ∧
    (encode .decIndHl = [0x35] ∧
      ∃ t, exec .decIndHl s = .next t ∧
        t = ((((s.afterRead s.hl).busWrite s.hl (BitVec.ofNat 8 ((s.peek s.hl).toNat + 255))).setFlags
          { z := decide ((s.peek s.hl).toNat = 1), n := true, h := decide ((s.peek s.hl).toNat % 16 = 0)
            c := s.cpu.f.c }).tick 12) ∧
        s.keepsCpu { flags := true } t ∧ s.writesOnlyAt s.hl t)

/-- R522-R525: `DAA`, written out: after an addition 0x60 is added when C or A > 0x99 and 0x06 when H or the low nibble > 9; after a
subtraction 0x60 is taken away when C and 0x06 when H; Z from the result, H = 0, C as computed, N unchanged. `CPL` complements A and
sets N and H; `SCF` sets C, `CCF` inverts it, both clearing N and H; the other flags stay. -/
def Obligations.AccumulatorAndFlagOperations : Prop :=
  ∀ s : State,
    (encode .daa = [0x27] ∧ ∃ t, exec .daa s = .next t ∧
      (let a := s.cpu.a.toNat
       let f := s.cpu.f
       let high := f.c = true ∨ f.n = false ∧ a > 0x99
       let low := f.h = true ∨ f.n = false ∧ a % 16 > 9
       let adj := (if high then 0x60 else 0) + (if low then 0x06 else 0)
       t.cpu.a.toNat = (if f.n = true then a + 256 - adj else a + adj) % 256 ∧
         t.cpu.f = { z := decide (t.cpu.a.toNat = 0), n := f.n, h := false, c := decide high }) ∧
      t.cycles = s.cycles + 4 ∧ s.keepsCpu { regs := [.a], flags := true } t ∧ s.keepsDevices t ∧ s.keepsMemory t) ∧
    (encode .cplA = [0x2F] ∧ ∃ t, exec .cplA s = .next t ∧ t.cpu.a.toNat = 255 - s.cpu.a.toNat ∧
      t.cpu.f = { s.cpu.f with n := true, h := true } ∧ t.cycles = s.cycles + 4 ∧
      s.keepsCpu { regs := [.a], flags := true } t ∧ s.keepsDevices t ∧ s.keepsMemory t) ∧
    (encode .scf = [0x37] ∧ ∃ t, exec .scf s = .next t ∧
      t.cpu.f = { s.cpu.f with n := false, h := false, c := true } ∧ t.cycles = s.cycles + 4 ∧
      s.keepsCpu { flags := true } t ∧ s.keepsDevices t ∧ s.keepsMemory t) ∧
    (encode .ccf = [0x3F] ∧ ∃ t, exec .ccf s = .next t ∧
      t.cpu.f = { s.cpu.f with n := false, h := false, c := !s.cpu.f.c } ∧ t.cycles = s.cycles + 4 ∧
      s.keepsCpu { flags := true } t ∧ s.keepsDevices t ∧ s.keepsMemory t)

/-! ## 16-bit arithmetic (42_alu16.md) -/

/-- R601-R603: `ADD HL,rr`: the sum modulo 65536, N = 0, H the carry out of bit 11, C the carry out of bit 15, Z unchanged; `INC rr`
and `DEC rr` wrap modulo 65536 and write no flag. -/
def Obligations.PairArithmetic : Prop :=
  ∀ (r : Rp) (s : State),
    (encode (Instr.addHlPair r) = [0b00#2 ++ r.code ++ 0b1001#4] ∧
      ∃ t, exec (Instr.addHlPair r) s = .next t ∧
        (let a := s.hl.toNat
         let b := (s.getRp r).toNat
         t.hl.toNat = (a + b) % 65536 ∧
           t.cpu.f = { z := s.cpu.f.z, n := false, h := decide (a % 4096 + b % 4096 > 4095)
                       c := decide (a + b > 65535) }) ∧
        t.cycles = s.cycles + 8 ∧ s.keepsCpu { regs := [.h, .l], flags := true } t ∧ s.keepsDevices t ∧
        s.keepsMemory t) ∧
    (encode (Instr.incPair r) = [0b00#2 ++ r.code ++ 0b0011#4] ∧
      ∃ t, exec (Instr.incPair r) s = .next t ∧ (t.getRp r).toNat = ((s.getRp r).toNat + 1) % 65536 ∧
        t.cycles = s.cycles + 8 ∧ s.keepsCpu (rpFootprint r) t ∧ s.keepsDevices t ∧ s.keepsMemory t) ∧
    (encode (Instr.decPair r) = [0b00#2 ++ r.code ++ 0b1011#4] ∧
      ∃ t, exec (Instr.decPair r) s = .next t ∧ (t.getRp r).toNat = ((s.getRp r).toNat + 65535) % 65536 ∧
        t.cycles = s.cycles + 8 ∧ s.keepsCpu (rpFootprint r) t ∧ s.keepsDevices t ∧ s.keepsMemory t)

/-- R604-R606: `ADD SP,e8` and `LD HL,SP+e8`: SP plus the signed displacement modulo 65536, Z = N = 0, H and C those of an unsigned
add of e to the low byte of SP. -/
def Obligations.StackPointerPlusDisplacement : Prop :=
  ∀ (e : Byte) (s : State),
    (let p := s.cpu.sp.toNat
     let res := ((p : Int) + e.toInt) % 65536
     let f : Flags := { z := false, n := false, h := decide (p % 16 + e.toNat % 16 > 15), c := decide (p % 256 + e.toNat > 255) }
     (encode (.addSpE8 e) = [0xE8, e] ∧ ∃ t, exec (.addSpE8 e) s = .next t ∧ (t.cpu.sp.toNat : Int) = res ∧ t.cpu.f = f ∧
       t.cycles = s.cycles + 16 ∧ s.keepsCpu { flags := true, sp := true } t ∧ s.keepsDevices t ∧ s.keepsMemory t) ∧
     (encode (.ldHlSpE8 e) = [0xF8, e] ∧ ∃ t, exec (.ldHlSpE8 e) s = .next t ∧ (t.hl.toNat : Int) = res ∧ t.cpu.f = f ∧
       t.cycles = s.cycles + 12 ∧ s.keepsCpu { regs := [.h, .l], flags := true } t ∧ s.keepsDevices t ∧ s.keepsMemory t))

/-! ## Rotates, shifts and bit operations (43_rotate_shift_bit.md) -/

/-- The result of a rotate or shift as arithmetic on the byte's value, `c` being the carry before, 0 or 1 (R711-R718). -/
def Sys2Proof.Machine.rotValue (op : Rot) (v c : Nat) : Nat :=
  match op with
  | .rlc => v * 2 % 256 + v / 128
  | .rrc => v / 2 + v % 2 * 128
  | .rl => v * 2 % 256 + c
  | .rr => v / 2 + c * 128
  | .sla => v * 2 % 256
  | .sra => v / 2 + v / 128 * 128
  | .swap => v % 16 * 16 + v / 16
  | .srl => v / 2

/-- The carry after a rotate or shift: the bit that left the byte; none for SWAP (R711-R718). -/
def Sys2Proof.Machine.rotOut (op : Rot) (v : Nat) : Bool :=
  match op with
  | .rlc | .rl | .sla => decide (128 ≤ v)
  | .rrc | .rr | .sra | .srl => decide (v % 2 = 1)
  | .swap => false

/-- R700-R704: `RLCA`, `RRCA`, `RLA`, `RRA` rotate A; Z = N = H = 0 even on a zero result, C the bit rotated out. -/
def Obligations.RotateAccumulator : Prop :=
  ∀ (s : State) (i : Instr) (byte : Byte) (op : Rot),
    (i, byte, op) ∈ [(Instr.rlca, 0x07#8, Rot.rlc), (Instr.rrca, 0x0F#8, Rot.rrc), (Instr.rla, 0x17#8, Rot.rl),
      (Instr.rra, 0x1F#8, Rot.rr)] →
    encode i = [byte] ∧
      ∃ t, exec i s = .next t ∧ t.cpu.a.toNat = rotValue op s.cpu.a.toNat s.cpu.f.c.toNat ∧
        t.cpu.f = { z := false, n := false, h := false, c := rotOut op s.cpu.a.toNat } ∧
        t.cycles = s.cycles + 4 ∧ s.keepsCpu { regs := [.a], flags := true } t ∧ s.keepsDevices t ∧ s.keepsMemory t

/-- R710-R718: every CB rotate and shift of a register: the result in the register, Z from it, N = H = 0, C the bit shifted out; and
of the byte at HL, by one read and then one write of the result there, with the write's own effect. -/
def Obligations.RotatesAndShifts : Prop :=
  ∀ (op : Rot) (s : State),
    (∀ r : R8, encode (Instr.rotReg op r) = [0xCB, 0b00#2 ++ op.code ++ r.code] ∧
      ∃ t, exec (Instr.rotReg op r) s = .next t ∧
        (t.getR r).toNat = rotValue op (s.getR r).toNat s.cpu.f.c.toNat ∧
        t.cpu.f = { z := decide (rotValue op (s.getR r).toNat s.cpu.f.c.toNat = 0), n := false, h := false
                    c := rotOut op (s.getR r).toNat } ∧
        t.cycles = s.cycles + 8 ∧ s.keepsCpu { regs := [r], flags := true } t ∧ s.keepsDevices t ∧ s.keepsMemory t) ∧
    (encode (Instr.rotHl op) = [0xCB, 0b00#2 ++ op.code ++ 0b110#3] ∧
      ∃ t, exec (Instr.rotHl op) s = .next t ∧
        (let v := (s.peek s.hl).toNat
         t = ((((s.afterRead s.hl).busWrite s.hl (BitVec.ofNat 8 (rotValue op v s.cpu.f.c.toNat))).setFlags
           { z := decide (rotValue op v s.cpu.f.c.toNat = 0), n := false, h := false, c := rotOut op v }).tick 16)) ∧
        s.keepsCpu { flags := true } t ∧ s.writesOnlyAt s.hl t)

/-- A byte with one bit cleared, as arithmetic (R720). -/
def Sys2Proof.Machine.bitTurnedOff (v : Byte) (b : Nat) : Byte := BitVec.ofNat 8 (v.toNat - v.toNat / 2 ^ b % 2 * 2 ^ b)

/-- A byte with one bit set, as arithmetic (R721). -/
def Sys2Proof.Machine.bitTurnedOn (v : Byte) (b : Nat) : Byte := BitVec.ofNat 8 (v.toNat + (1 - v.toNat / 2 ^ b % 2) * 2 ^ b)

/-- R710, R719-R721: `BIT b,s`: Z when the bit is 0, N = 0, H = 1, C unchanged, the operand not written; `RES b,s` and `SET b,s` change
the one bit and no flag, and on `(HL)` the byte is read and written back even when the bit does not change. -/
def Obligations.BitTestResetSet : Prop :=
  ∀ (b : Oct) (s : State),
    (∀ r : R8,
      (encode (Instr.bitReg b r) = [0xCB, 0b01#2 ++ b.code ++ r.code] ∧
        ∃ t, exec (Instr.bitReg b r) s = .next t ∧
          t.cpu.f = { z := decide ((s.getR r).toNat / 2 ^ b.toNat % 2 = 0), n := false, h := true, c := s.cpu.f.c } ∧
          t.cycles = s.cycles + 8 ∧ s.keepsCpu { flags := true } t ∧ s.keepsDevices t ∧ s.keepsMemory t) ∧
      (encode (Instr.resReg b r) = [0xCB, 0b10#2 ++ b.code ++ r.code] ∧
        ∃ t, exec (Instr.resReg b r) s = .next t ∧ t.getR r = bitTurnedOff (s.getR r) b.toNat ∧
          t.cycles = s.cycles + 8 ∧ s.keepsCpu { regs := [r] } t ∧ s.keepsDevices t ∧ s.keepsMemory t) ∧
      (encode (Instr.setReg b r) = [0xCB, 0b11#2 ++ b.code ++ r.code] ∧
        ∃ t, exec (Instr.setReg b r) s = .next t ∧ t.getR r = bitTurnedOn (s.getR r) b.toNat ∧
          t.cycles = s.cycles + 8 ∧ s.keepsCpu { regs := [r] } t ∧ s.keepsDevices t ∧ s.keepsMemory t)) ∧
    (encode (Instr.bitHl b) = [0xCB, 0b01#2 ++ b.code ++ 0b110#3] ∧
      ∃ t, exec (Instr.bitHl b) s = .next t ∧
        t.cpu.f = { z := decide ((s.peek s.hl).toNat / 2 ^ b.toNat % 2 = 0), n := false, h := true, c := s.cpu.f.c } ∧
        t.cycles = s.cycles + 12 ∧ s.keepsCpu { flags := true } t ∧ s.keepsDevices t ∧ s.keepsMemory t) ∧
    (encode (Instr.resHl b) = [0xCB, 0b10#2 ++ b.code ++ 0b110#3] ∧
      ∃ t, exec (Instr.resHl b) s = .next t ∧
        t = ((s.afterRead s.hl).busWrite s.hl (bitTurnedOff (s.peek s.hl) b.toNat)).tick 16 ∧ t.cpu = s.cpu ∧
        s.writesOnlyAt s.hl t) ∧
    (encode (Instr.setHl b) = [0xCB, 0b11#2 ++ b.code ++ 0b110#3] ∧
      ∃ t, exec (Instr.setHl b) s = .next t ∧
        t = ((s.afterRead s.hl).busWrite s.hl (bitTurnedOn (s.peek s.hl) b.toNat)).tick 16 ∧ t.cpu = s.cpu ∧
        s.writesOnlyAt s.hl t)

/-! ## Jumps, calls and returns (44_control.md) -/

/-- `cond(cc)` written out on the flags (R800). -/
def Sys2Proof.Machine.condOn (cc : Cond) (f : Flags) : Prop :=
  match cc with
  | .nz => f.z = false
  | .z => f.z = true
  | .nc => f.c = false
  | .c => f.c = true

/-- R800-R805: `JP nn`, `JP cc,nn` and `JP HL`: PC takes the target (HL itself, not the memory it points at); `JR e` and `JR cc,e`: PC,
past the instruction, plus the displacement read as signed, modulo 65536. When the condition does not hold, PC stays past the
instruction at the lower cost. -/
def Obligations.Jumps : Prop :=
  ∀ s : State,
    (∀ nn : Word, encode (.jpA16 nn) = [0xC3, lo nn, hi nn] ∧
      ∃ t, exec (.jpA16 nn) s = .next t ∧ t.cpu.pc = nn ∧ t.cycles = s.cycles + 16 ∧
        s.keepsCpu { pc := true } t ∧ s.keepsDevices t ∧ s.keepsMemory t) ∧
    (∀ (cc : Cond) (nn : Word), encode (Instr.jpCond cc nn) = [0b110#3 ++ cc.code ++ 0b010#3, lo nn, hi nn] ∧
      ∃ t, exec (Instr.jpCond cc nn) s = .next t ∧
        (condOn cc s.cpu.f → t.cpu.pc = nn ∧ t.cycles = s.cycles + 16) ∧
        (¬ condOn cc s.cpu.f → t.cpu.pc = s.cpu.pc ∧ t.cycles = s.cycles + 12) ∧
        s.keepsCpu { pc := true } t ∧ s.keepsDevices t ∧ s.keepsMemory t) ∧
    (encode .jpHl = [0xE9] ∧
      ∃ t, exec .jpHl s = .next t ∧ t.cpu.pc = cat s.cpu.h s.cpu.l ∧ t.cycles = s.cycles + 4 ∧
        s.keepsCpu { pc := true } t ∧ s.keepsDevices t ∧ s.keepsMemory t) ∧
    ∀ e : Byte,
      (encode (.jrE8 e) = [0x18, e] ∧
        ∃ t, exec (.jrE8 e) s = .next t ∧ (t.cpu.pc.toNat : Int) = ((s.cpu.pc.toNat : Int) + e.toInt) % 65536 ∧
          t.cycles = s.cycles + 12 ∧ s.keepsCpu { pc := true } t ∧ s.keepsDevices t ∧ s.keepsMemory t) ∧
      ∀ cc : Cond, encode (Instr.jrCond cc e) = [0b001#3 ++ cc.code ++ 0b000#3, e] ∧
        ∃ t, exec (Instr.jrCond cc e) s = .next t ∧
          (condOn cc s.cpu.f →
            (t.cpu.pc.toNat : Int) = ((s.cpu.pc.toNat : Int) + e.toInt) % 65536 ∧ t.cycles = s.cycles + 12) ∧
          (¬ condOn cc s.cpu.f → t.cpu.pc = s.cpu.pc ∧ t.cycles = s.cycles + 8) ∧
          s.keepsCpu { pc := true } t ∧ s.keepsDevices t ∧ s.keepsMemory t

/-- The state after a call: PC's high byte written at SP - 1, then its low byte at SP - 2; SP two lower; PC at the target (R13). -/
def Sys2Proof.Machine.State.called (s : State) (target : Word) (k : Nat) : State :=
  ((((s.busWrite (s.cpu.sp - 1) (s.cpu.pc.extractLsb' 8 8)).busWrite (s.cpu.sp - 2) (s.cpu.pc.extractLsb' 0 8)).setSp
    (s.cpu.sp - 2)).setPc target).tick k

/-- R800, R806, R807, R811: `CALL nn`, `CALL cc,nn` and `RST t` push the PC past the instruction, high byte first, and jump; when the
condition does not hold nothing but the lower cost happens. -/
def Obligations.CallsAndRestarts : Prop :=
  ∀ s : State,
    (∀ nn : Word, encode (.callA16 nn) = [0xCD, lo nn, hi nn] ∧
      ∃ t, exec (.callA16 nn) s = .next t ∧ t = s.called nn 24 ∧
        s.keepsCpu { sp := true, pc := true } t ∧ s.writesOnlyAtTwo (s.cpu.sp - 1) (s.cpu.sp - 2) t) ∧
    (∀ (cc : Cond) (nn : Word), encode (Instr.callCond cc nn) = [0b110#3 ++ cc.code ++ 0b100#3, lo nn, hi nn] ∧
      ∃ t, exec (Instr.callCond cc nn) s = .next t ∧ (condOn cc s.cpu.f → t = s.called nn 24) ∧
        (¬ condOn cc s.cpu.f → t = s.tick 12) ∧
        s.keepsCpu { sp := true, pc := true } t ∧ s.writesOnlyAtTwo (s.cpu.sp - 1) (s.cpu.sp - 2) t) ∧
    ∀ n : Oct, encode (Instr.rst n) = [0b11#2 ++ n.code ++ 0b111#3] ∧
      ∃ t, exec (Instr.rst n) s = .next t ∧ t = s.called (BitVec.ofNat 16 (n.toNat * 8)) 16 ∧
        s.keepsCpu { sp := true, pc := true } t ∧ s.writesOnlyAtTwo (s.cpu.sp - 1) (s.cpu.sp - 2) t

/-- R800, R808-R810: `RET`, `RET cc` and `RETI` pop PC, low byte at SP, high byte at SP + 1, and leave SP + 2 in SP; RETI also sets
IME at once and leaves `ei_pending`; a `RET cc` whose condition does not hold only takes the lower cost. -/
def Obligations.Returns : Prop :=
  ∀ s : State,
    (encode .ret = [0xC9] ∧
      ∃ t, exec .ret s = .next t ∧ t.cpu.pc = cat ((s.afterRead s.cpu.sp).peek (s.cpu.sp + 1)) (s.peek s.cpu.sp) ∧
        t.cpu.sp = s.cpu.sp + 2 ∧ t.cycles = s.cycles + 16 ∧
        s.keepsCpu { sp := true, pc := true } t ∧ s.keepsDevices t ∧ s.keepsMemory t) ∧
    (∀ cc : Cond, encode (Instr.retCond cc) = [0b110#3 ++ cc.code ++ 0b000#3] ∧
      ∃ t, exec (Instr.retCond cc) s = .next t ∧
        (condOn cc s.cpu.f → t.cpu.pc = cat ((s.afterRead s.cpu.sp).peek (s.cpu.sp + 1)) (s.peek s.cpu.sp) ∧
          t.cpu.sp = s.cpu.sp + 2 ∧ t.cycles = s.cycles + 20) ∧
        (¬ condOn cc s.cpu.f → t = s.tick 8) ∧
        s.keepsCpu { sp := true, pc := true } t ∧ s.keepsDevices t ∧ s.keepsMemory t) ∧
    (encode .reti = [0xD9] ∧
      ∃ t, exec .reti s = .next t ∧ t.cpu.pc = cat ((s.afterRead s.cpu.sp).peek (s.cpu.sp + 1)) (s.peek s.cpu.sp) ∧
        t.cpu.sp = s.cpu.sp + 2 ∧ t.cpu.ime = true ∧ t.cycles = s.cycles + 16 ∧
        s.keepsCpu { sp := true, pc := true, ime := true } t ∧ s.keepsDevices t ∧ s.keepsMemory t)

/-! ## System and CPU control (45_system.md) -/

/-- R900, R903, R904: `NOP` does nothing; `DI` clears IME and `ei_pending` at once; `EI` sets `ei_pending` and leaves IME. -/
def Obligations.NopDiEi : Prop :=
  ∀ s : State,
    (encode .nop = [0x00] ∧ exec .nop s = .next (s.tick 4)) ∧
    (encode .di = [0xF3] ∧ ∃ t, exec .di s = .next t ∧ t.cpu.ime = false ∧ t.cpu.eiPending = false ∧
      t.cycles = s.cycles + 4 ∧ s.keepsCpu { ime := true, eiPending := true } t ∧ s.keepsDevices t ∧ s.keepsMemory t) ∧
    (encode .ei = [0xFB] ∧ ∃ t, exec .ei s = .next t ∧ t.cpu.eiPending = true ∧
      t.cycles = s.cycles + 4 ∧ s.keepsCpu { eiPending := true } t ∧ s.keepsDevices t ∧ s.keepsMemory t)

/-- R901, R902: `HALT` halts when IME = 1 or IE & IF & 0x1F = 0, and otherwise arms the HALT-bug latch and goes on running; `STOP`,
whatever its second byte, stops with `div_counter` at 0. -/
def Obligations.HaltAndStop : Prop :=
  ∀ s : State,
    (encode .halt = [0x76] ∧
      ∃ t, exec .halt s = .next t ∧
        (s.cpu.ime = true ∨ (∀ k, k < 5 → (s.intr.ie.getLsbD k && s.intr.iflag.getLsbD k) = false) →
          t.cpu.run = .halted ∧ s.keepsCpu { run := true } t) ∧
        (s.cpu.ime = false ∧ (∃ k, k < 5 ∧ (s.intr.ie.getLsbD k && s.intr.iflag.getLsbD k) = true) →
          t.cpu.haltBug = true ∧ s.keepsCpu { haltBug := true } t) ∧
        t.cycles = s.cycles + 4 ∧ s.keepsDevices t ∧ s.keepsMemory t) ∧
    ∀ n : Byte, encode (.stop n) = [0x10, n] ∧
      ∃ t, exec (.stop n) s = .next t ∧ t.cpu.run = .stopped ∧ t.timer = { s.timer with divCounter := 0 } ∧
        t.cycles = s.cycles + 4 ∧ s.keepsCpu { run := true } t ∧
        s.keepsDevices { t with timer := s.timer } ∧ (∀ p, Memory.read t.mem p = Memory.read s.mem p) ∧
        ∀ a, isAudio a = false → a ≠ 0xFF04#16 → t.peek a = s.peek a

/-- R340, R905: exactly the eleven bytes decode to an illegal opcode, whatever follows; under `PERMISSIVE_ILLEGAL` it is a 4-cycle
no-op; otherwise it raises DecodeError: FAULTED, the record holds the address the opcode was fetched from and the opcode, PC is back
there, and nothing else changes. -/
def Obligations.IllegalOpcodes : Prop :=
  (∀ op b2 b3 : Byte, (∃ x, decodeFetched op b2 b3 = Instr.illegal x) ↔
    op ∈ [0xD3#8, 0xDB#8, 0xDD#8, 0xE3#8, 0xE4#8, 0xEB#8, 0xEC#8, 0xED#8, 0xF4#8, 0xFC#8, 0xFD#8]) ∧
  ∀ (x : Illegal) (s : State), ∃ op, encode (Instr.illegal x) = [op] ∧
    (s.launch.params.permissiveIllegal = true → exec (Instr.illegal x) s = .next (s.tick 4)) ∧
    (s.launch.params.permissiveIllegal = false → exec (Instr.illegal x) s = .next { s with cpu := { s.cpu with
        run := .faulted, fault := some { addr := s.cpu.opAddr, opcode := op }, pc := s.cpu.opAddr } })

/-! ## The step (60_exceptions.md) -/

/-- R1000, R1020: the state takes an interrupt before fetching. -/
def Sys2Proof.Machine.State.interrupted (s : State) : Prop := s.cpu.ime = true ∧ s.pending ≠ 0

/-- R1000, R300-R303: when the CPU runs, takes no interrupt, and the bytes at PC decode to a well-formed instruction, the step is
that instruction's exec on the state after the fetch, and then, around it, the EI delay and the devices' advance, or the undoing of a
DecodeError (`completeStep`). -/
def Obligations.StepRunsTheDecodedInstruction : Prop :=
  ∀ (s : State) (i : Instr) (rest : List Byte), s.cpu.run = .running → ¬ s.interrupted →
    decode s.fetchedBytes = .ok (i, rest) → i.wellFormed = true →
    rest = [] ∧
    step s = match exec i s.afterFetch with
      | .next done => .next (State.completeStep 0 s done)
      | .fault f => .fault f
      | .refused r => .refused r

/-- R300, R302, R303, R1031: the fetch reads as many bytes as the first byte says, from PC upward modulo 65536, and leaves PC past
them; with the HALT-bug latch set the opcode fetch leaves PC, so the same byte is read again and PC ends one lower; the latch is
cleared. Outside the audio range the bytes are the bus's. -/
def Obligations.FetchReadsAndAdvances : Prop :=
  ∀ s : State,
    (let start := if s.cpu.haltBug = true then s.cpu.pc else s.cpu.pc + 1
     s.afterFetch.cpu = { s.cpu with
       pc := start + BitVec.ofNat 16 (instrLength s.opcode - 1), haltBug := false, opAddr := s.cpu.pc } ∧
     (∀ a : Word, isAudio a = false → s.afterFetch.peek a = s.peek a) ∧
     s.fetchedBytes.length = instrLength s.opcode ∧
     s.fetchedBytes[0]? = some (s.peek s.cpu.pc) ∧
     (∀ k, k + 1 < instrLength s.opcode → isAudio (start + BitVec.ofNat 16 k) = false →
       s.fetchedBytes[k + 1]? = some (s.peek (start + BitVec.ofNat 16 k))))

/-- R1020-R1024: a running CPU with IME = 1 and something pending dispatches the lowest pending source: its IF bit is cleared, IME
and `ei_pending` and the latch with it, the return address (the HALT's own when the latch was set) is pushed high byte first through
the bus, PC takes 0x0040 + 8 i, and the devices advance by the 20 T-cycles. -/
def Obligations.InterruptIsTaken : Prop :=
  ∀ (s : State) (k : Nat), s.cpu.run = .running → s.cpu.ime = true → k < 5 →
    (s.intr.ie.getLsbD k && s.intr.iflag.getLsbD k) = true →
    (∀ j, j < k → (s.intr.ie.getLsbD j && s.intr.iflag.getLsbD j) = false) →
    (let ret := if s.cpu.haltBug = true then s.cpu.pc - 1 else s.cpu.pc
     let acked := { s with intr := { s.intr with iflag := s.intr.iflag &&& ~~~(1#5 <<< k) } }
     let pushed := (acked.busWrite (s.cpu.sp - 1) (ret.extractLsb' 8 8)).busWrite (s.cpu.sp - 2) (ret.extractLsb' 0 8)
     step s = .next (State.advanceDevices 20 { pushed with
       cycles := s.cycles + 20
       cpu := { s.cpu with
         pc := BitVec.ofNat 16 (0x0040 + 8 * k), sp := s.cpu.sp - 2, ime := false, eiPending := false, haltBug := false } }))

/-- R1000, R1030, R1032: a HALTED CPU with nothing pending idles 4 T-cycles with the devices advancing; with something pending it
steps, in the same step, to what the running machine steps to, the devices then advanced by `HALT_WAKE_EXTRA_T` and `cycles` raised by
it, or to the very state that the running machine's DecodeError leaves; a STOPPED CPU with every line high takes 4 T-cycles and advances
no device, and with a line low steps as the running machine does. -/
def Obligations.HaltedAndStoppedSteps : Prop :=
  ∀ s : State,
    (s.cpu.run = .halted → s.pending = 0 →
      step s = .next { State.advanceDevices 4 s with cycles := s.cycles + 4 }) ∧
    (s.cpu.run = .halted → s.pending ≠ 0 → s.launch.params.haltWakeExtraT = 0 → step s = step (s.setRun .running)) ∧
    (∀ u : State, s.cpu.run = .halted → s.pending ≠ 0 → step (s.setRun .running) = .next u →
      (let extra := s.launch.params.haltWakeExtraT
       step s = .next (if u.cpu.run = .faulted then u
         else { State.advanceDevices extra u with cycles := u.cycles + extra }))) ∧
    (s.cpu.run = .stopped → joypadLines s.joypad = 0xF#4 → step s = .next { s with cycles := s.cycles + 4 }) ∧
    (s.cpu.run = .stopped → joypadLines s.joypad ≠ 0xF#4 → step s = step (s.setRun .running))

/-- R1040: the instruction after EI. If `ei_pending` was set before an instruction that neither faults nor clears it, IME is 1 and
`ei_pending` 0 after the step; if the instruction cleared it (DI), IME is what the instruction left; if `ei_pending` was not set
before, both are what the instruction left, so that EI itself enables nothing yet. -/
def Obligations.EnableTakesEffectOneInstructionLate : Prop :=
  ∀ s done t : State, s.cpu.run = .running → ¬ s.interrupted →
    exec s.fetchedInstr s.afterFetch = .next done → done.cpu.run ≠ .faulted → step s = .next t →
    (s.cpu.eiPending = true → done.cpu.eiPending = true → t.cpu.ime = true ∧ t.cpu.eiPending = false) ∧
    (s.cpu.eiPending = true → done.cpu.eiPending = false → t.cpu.ime = done.cpu.ime ∧ t.cpu.eiPending = false) ∧
    (s.cpu.eiPending = false → t.cpu.ime = done.cpu.ime ∧ t.cpu.eiPending = done.cpu.eiPending)

/-- R1050, R1053: without `PERMISSIVE_ILLEGAL`, a running CPU that fetches one of the eleven illegal opcodes ends FAULTED with the
record (address, opcode) and PC at that address, and every other part of the state, devices and cycles included, as it was; from then
on every step changes nothing and takes no T-cycle. -/
def Obligations.DecodeErrorStopsTheMachine : Prop :=
  (∀ s : State, s.cpu.run = .running → ¬ s.interrupted → s.launch.params.permissiveIllegal = false →
    s.peek s.cpu.pc ∈ [0xD3#8, 0xDB#8, 0xDD#8, 0xE3#8, 0xE4#8, 0xEB#8, 0xEC#8, 0xED#8, 0xF4#8, 0xFC#8, 0xFD#8] →
    step s = .next { s with cpu := { s.cpu with
      run := .faulted, fault := some { addr := s.cpu.pc, opcode := s.peek s.cpu.pc } } }) ∧
  ∀ s : State, s.cpu.run = .faulted → step s = .next s

/-- R217, R341, R1052: no step stops: every state has a next state, and so has every instruction in every state. -/
def Obligations.EveryStepAnswersANextState : Prop :=
  (∀ s : State, ∃ t, step s = .next t) ∧ ∀ (i : Instr) (s : State), ∃ t, exec i s = .next t

/-- R124, R1000, R1230: a step that does not end FAULTED costs at least 4 and at most 24 T-cycles, and the wake cost when it wakes a
HALTED CPU; a step that ends FAULTED costs none. -/
def Obligations.StepCostIsBounded : Prop :=
  ∀ s t : State, step s = .next t →
    (t.cpu.run = .faulted → t.cycles = s.cycles) ∧
    (t.cpu.run ≠ .faulted → s.cycles + 4 ≤ t.cycles ∧ t.cycles ≤ s.cycles + 24 +
      (if s.cpu.run = .halted then s.launch.params.haltWakeExtraT else 0))

/-- R162, R163, R205: no step changes a ROM byte, the cartridge, the parameters or the host's buttons. -/
def Obligations.StepKeepsRomAndButtons : Prop :=
  ∀ s t : State, step s = .next t → t.launch = s.launch ∧ t.joypad.buttons = s.joypad.buttons

/-! ## Invariants -/

/-- R162, R200: the memory's canonical form, listing only places that exist, survives every step. -/
def Obligations.StepKeepsMemoryForm : Prop :=
  ∀ s t : State, s.memOk = true → step s = .next t → t.memOk = true

/-- R1100, R1106, R1114, R1117: LY, dot and mode stay where the line puts them, STAT's coincidence stays LY = LYC while the LCD is
on, the window line stays within the frame, and both pictures keep 144 rows of 160 shades, through every step. -/
def Obligations.StepKeepsPpuForm : Prop :=
  ∀ s t : State, s.ppuOk = true → step s = .next t → t.ppuOk = true

/-- R123, R125, R255, R259, R261, R1040: a fault record exactly when FAULTED, the HALT-bug latch and a pending EI never in a HALTED or
STOPPED CPU; the mapper registers stay values that their writes produce (MBC1's lower bank and MBC3's bank never 0, MBC5's RAM bank
within its bits): each through every step. -/
def Obligations.StepKeepsControlAndMapperForm : Prop :=
  ∀ s t : State, step s = .next t →
    (s.controlOk = true → t.controlOk = true) ∧ (s.mapperOk = true → t.mapperOk = true)

/-- R170-R173: a machine that Load builds on a canonical memory of existing places meets the whole invariant, and State.reset (log 2
to 6 name its open values) is one. -/
def Obligations.LoadAndResetMeetTheInvariant : Prop :=
  (∀ (launch : Launch) (args : InitArgs),
    Memory.wf args.mem = true → Memory.within (placeOk launch.cart.ramSize) args.mem = true →
    (State.afterLoad launch args).Inv = true) ∧ State.reset.Inv = true

/-! ## Load and reset -/

/-- R170, R171, R173: what Load leaves, read as a program or the host reads it, for every launch and every open argument. -/
def Obligations.LoadLeavesTheStatedValues : Prop :=
  ∀ (launch : Launch) (args : InitArgs),
    (let s := State.afterLoad launch args
     (s.cpu.a = 0x01 ∧ s.cpu.f.toByte = 0xB0 ∧ s.cpu.b = 0x00 ∧ s.cpu.c = 0x13 ∧ s.cpu.d = 0x00 ∧ s.cpu.e = 0xD8 ∧
       s.cpu.h = 0x01 ∧ s.cpu.l = 0x4D ∧ s.cpu.sp = 0xFFFE ∧ s.cpu.pc = 0x0100 ∧ s.cpu.ime = false ∧
       s.cpu.eiPending = false ∧ s.cpu.haltBug = false ∧ s.cpu.run = .running ∧ s.cycles = 0 ∧ s.cpu.fault = none) ∧
     (s.peek 0xFF00 = 0xCF ∧ s.peek 0xFF01 = 0x00 ∧ s.peek 0xFF02 = 0x7E ∧ s.peek 0xFF04 = 0xAB ∧
       s.timer.divCounter = 0xAB00 + zext16 args.divLo ∧ s.peek 0xFF05 = 0x00 ∧ s.peek 0xFF06 = 0x00 ∧
       s.peek 0xFF07 = 0xF8 ∧ s.peek 0xFF0F = 0xE1 ∧ s.peek 0xFF40 = 0x91 ∧ s.peek 0xFF41 = 0x86 ∧
       s.peek 0xFF42 = 0x00 ∧ s.peek 0xFF43 = 0x00 ∧ s.peek 0xFF44 = 0x00 ∧ s.peek 0xFF45 = 0x00 ∧ s.peek 0xFF46 = 0xFF ∧
       s.peek 0xFF47 = 0xFC ∧ s.peek 0xFF48 = args.obp0 ∧ s.peek 0xFF49 = args.obp1 ∧ s.peek 0xFF4A = 0x00 ∧
       s.peek 0xFF4B = 0x00 ∧ s.peek 0xFFFF = 0x00 ∧ s.ppu.mode = .oamScan ∧ s.ppu.dot = 0 ∧ s.ppu.winLine = 0 ∧
       s.joypad.buttons = 0x00 ∧ s.ppu.frameComplete = false) ∧
     (s.mapper.lower = 1 ∧ s.mapper.romBank = 1 ∧ s.mapper.ramSel = 0 ∧ s.mapper.mode = false ∧
       s.mapper.ramEnabled = false))

/-- R250-R252, R1051, R1200: Load refuses an image shorter than 0x150 bytes, then an unsupported type byte, then an unknown size
code, in that order, and otherwise builds the machine of R170-R173 with the bank count 2 << code and the RAM the two bytes give. -/
def Obligations.LoadChecksTheHeader : Prop :=
  ∀ (rom : RomImage) (params : Params) (args : InitArgs),
    (let ty := romByte rom 0x147
     let sz := (romByte rom 0x148).toNat
     let rs := (romByte rom 0x149).toNat
     let known := ty ∈ [0x00#8, 0x08#8, 0x09#8, 0x01#8, 0x02#8, 0x03#8, 0x11#8, 0x12#8, 0x13#8, 0x19#8, 0x1A#8, 0x1B#8,
       0x1C#8, 0x1D#8, 0x1E#8]
     let withRam := ty ∈ [0x08#8, 0x09#8, 0x02#8, 0x03#8, 0x12#8, 0x13#8, 0x1A#8, 0x1B#8, 0x1D#8, 0x1E#8]
     (rom.length < 0x150 → load rom params args = .fault .loadTruncated) ∧
     (0x150 ≤ rom.length → ¬ known → load rom params args = .fault (.loadUnsupportedMapper ty)) ∧
     (0x150 ≤ rom.length → known → sz > 8 ∨ rs > 5 → load rom params args = .fault .loadBadHeader) ∧
     (0x150 ≤ rom.length → known → sz ≤ 8 → rs ≤ 5 →
       ∃ cart, load rom params args = .next (State.afterLoad { rom := rom, cart := cart, params := params } args) ∧
         cart.romBanks = 2 ^ (sz + 1) ∧
         cart.ramSize = (if withRam then [0, 2048, 8192, 32768, 131072, 65536].getD rs 0 else 0) ∧
         (cart.mapper = .romOnly ↔ ty ∈ [0x00#8, 0x08#8, 0x09#8]) ∧
         (cart.mapper = .mbc1 ↔ ty ∈ [0x01#8, 0x02#8, 0x03#8]) ∧
         (cart.mapper = .mbc3 ↔ ty ∈ [0x11#8, 0x12#8, 0x13#8]) ∧
         (cart.rumble = true ↔ ty ∈ [0x1C#8, 0x1D#8, 0x1E#8])))

/-! ## Devices -/

/-- R1060-R1063: the timer. The signal is TAC[2] and the selected `div_counter` bit (9, 3, 5, 7); a tick, a bus write to DIV and one to
TAC count TIMA exactly when the signal falls from 1 to 0; counting 0xFF reloads TMA and requests the Timer interrupt. -/
def Obligations.TimerCountsOnFallingEdges : Prop :=
  ∀ (s : State) (v : Byte),
    (let sig := fun (tac : BitVec 3) (div : Word) =>
       tac.getLsbD 2 && div.getLsbD ([9, 3, 5, 7].getD (tac.toNat % 4) 0)
     let counted := fun (t : State) (before after : Bool) =>
       t.timer.tma = s.timer.tma ∧
       if before = true ∧ after = false then
         (if s.timer.tima.toNat = 255 then t.timer.tima = s.timer.tma ∧ t.intr.iflag = s.intr.iflag ||| 0b00100#5
          else t.timer.tima.toNat = s.timer.tima.toNat + 1 ∧ t.intr.iflag = s.intr.iflag)
       else t.timer.tima = s.timer.tima ∧ t.intr.iflag = s.intr.iflag
     let old := sig s.timer.tac s.timer.divCounter
     (s.timerTick.timer.divCounter = s.timer.divCounter + 1 ∧ s.timerTick.timer.tac = s.timer.tac ∧
       counted s.timerTick old (sig s.timer.tac (s.timer.divCounter + 1))) ∧
     ((s.busWrite 0xFF04 v).timer.divCounter = 0 ∧ (s.busWrite 0xFF04 v).timer.tac = s.timer.tac ∧
       counted (s.busWrite 0xFF04 v) old false) ∧
     ((s.busWrite 0xFF07 v).timer.divCounter = s.timer.divCounter ∧
       (s.busWrite 0xFF07 v).timer.tac = v.extractLsb' 0 3 ∧
       counted (s.busWrite 0xFF07 v) old (sig (v.extractLsb' 0 3) s.timer.divCounter)))

/-- R1002, R1060: with the timer on, TIMA counts once every 1024, 16, 64 or 256 T-cycles, as TAC[1:0] selects: over n T-cycles of device
time in which it does not overflow it rises by the multiples of the period that `div_counter` passes, and the Timer interrupt is not
requested. -/
def Obligations.TimerRate : Prop :=
  ∀ (s : State) (n : Nat), s.timer.tac.getLsbD 2 = true →
    (let period := [1024, 16, 64, 256].getD (s.timer.tac.toNat % 4) 0
     let count := (s.timer.divCounter.toNat % period + n) / period
     s.timer.tima.toNat + count ≤ 255 →
       (State.advanceDevices n s).timer.tima.toNat = s.timer.tima.toNat + count ∧
       (State.advanceDevices n s).intr.iflag.getLsbD 2 = s.intr.iflag.getLsbD 2)

/-- R1002, R1011, R1072: device time is, T-cycle by T-cycle, a timer tick and then a PPU tick. It requests only V-blank, LCD STAT and
Timer: it never sets or clears the Serial and Joypad bits of IF, clears no bit at all, and touches no serial register, memory byte,
mapper register or CPU register. -/
def Obligations.DevicesRequestOnlyTheirOwnInterrupts : Prop :=
  ∀ (n : Nat) (s : State),
    State.advanceDevices (n + 1) s = (State.advanceDevices n s).timerTick.ppuTick ∧
    (let t := State.advanceDevices n s
     t.intr.iflag.getLsbD 3 = s.intr.iflag.getLsbD 3 ∧ t.intr.iflag.getLsbD 4 = s.intr.iflag.getLsbD 4 ∧
       (∀ k, s.intr.iflag.getLsbD k = true → t.intr.iflag.getLsbD k = true) ∧
       t.intr.ie = s.intr.ie ∧ t.serial = s.serial ∧ t.mem = s.mem ∧ t.mapper = s.mapper ∧ t.cpu = s.cpu ∧
       t.joypad = s.joypad ∧ t.dma = s.dma)

/-- R1100, R1104: from any position in the frame, n T-cycles of device time with the LCD on move the position by n modulo 70224, with
the mode the position has; so after 70224 the position is the same again. -/
def Obligations.FramePositionAdvances : Prop :=
  ∀ (n : Nat) (s : State), s.lcdOn = true → s.ppuPositionOk = true →
    (let t := State.advanceDevices n s
     t.ppu.ly.toNat * 456 + t.ppu.dot = (s.ppu.ly.toNat * 456 + s.ppu.dot + n) % 70224 ∧ t.ppu.dot < 456 ∧
       t.ppu.mode = lineMode s.launch.params.mode3T t.ppu.ly.toNat t.ppu.dot ∧ t.lcdOn = true)

/-- R1101, R1103: with the LCD on, a PPU tick requests V-blank exactly when it ends line 143, and then completes the frame: the flag is
raised, the framebuffer is copied, the window line is 0. -/
def Obligations.VblankEntry : Prop :=
  ∀ s : State, s.lcdOn = true →
    (let t := s.ppuTick
     (s.ppu.ly = 143 ∧ s.ppu.dot = 455 →
       t.intr.iflag.getLsbD 0 = true ∧ t.ppu.frameComplete = true ∧ t.ppu.lastFrame = t.ppu.framebuffer ∧
         t.ppu.mode = .vblank ∧ t.ppu.ly = 144 ∧ t.ppu.winLine = 0) ∧
     (¬ (s.ppu.ly = 143 ∧ s.ppu.dot = 455) →
       t.intr.iflag.getLsbD 0 = s.intr.iflag.getLsbD 0 ∧ t.ppu.frameComplete = s.ppu.frameComplete ∧
         t.ppu.lastFrame = s.ppu.lastFrame))

/-- R1101, R1102, R1106, R1107, R1118: LCD STAT. Under `STAT_IRQ_MODEL` = events a PPU tick with the LCD on requests it exactly when it
enters mode 0, 1 or 2 with STAT[3], [4] or [5] set (at dot 80 + `MODE3_T` of a visible line, at the start of line 144, at the start of a
visible line), or when the line it starts is LYC, the coincidence bit was 0 and STAT[6] is set; a STAT write requests nothing, a LYC
write only when the coincidence bit rises with STAT[6] set, and an LCDC write only so, when it switches the LCD on. Under `line`, a PPU
tick, a STAT write and a LYC write request exactly when the line, read as 0 with the LCD off (log 14: the model's choice), goes from 0
to 1, and an LCDC write exactly when it switches the LCD on with STAT[6] set and LYC = 0 (log 14), never for mode 2. -/
def Obligations.StatRequests : Prop :=
  ∀ (s : State) (v : Byte),
    (let p := s.ppu
     let en := fun k : Nat => p.statEnables.getLsbD k = true
     let asked := fun (t : State) (b : Prop) =>
       t.intr.iflag.getLsbD 1 = true ↔ s.intr.iflag.getLsbD 1 = true ∨ b
     let next := (p.ly.toNat + 1) % 154
     let switchedOn := s.lcdOn = false ∧ v.getLsbD 7 = true
     (s.launch.params.statIrqModel = .events →
       (s.lcdOn = true → asked s.ppuTick
         ((p.ly.toNat < 144 ∧ p.dot + 1 = 80 + s.launch.params.mode3T ∧ en 0) ∨
           (p.dot = 455 ∧ ((next = 144 ∧ en 1) ∨ (next < 144 ∧ en 2) ∨
             (next = p.lyc.toNat ∧ p.statCoincidence = false ∧ en 3))))) ∧
       (s.busWrite 0xFF41 v).intr = s.intr ∧
       asked (s.busWrite 0xFF45 v) (s.lcdOn = true ∧ p.ly = v ∧ p.statCoincidence = false ∧ en 3) ∧
       asked (s.busWrite 0xFF40 v) (switchedOn ∧ p.lyc = 0 ∧ p.statCoincidence = false ∧ en 3)) ∧
     (s.launch.params.statIrqModel = .line →
       (let line := fun u : State => u.lcdOn = true ∧
          ((u.ppu.statEnables.getLsbD 0 = true ∧ u.ppu.mode = .hblank) ∨
            (u.ppu.statEnables.getLsbD 1 = true ∧ u.ppu.mode = .vblank) ∨
            (u.ppu.statEnables.getLsbD 2 = true ∧ u.ppu.mode = .oamScan) ∨
            (u.ppu.statEnables.getLsbD 3 = true ∧ u.ppu.statCoincidence = true))
        (∀ t : State, t = s.ppuTick ∨ t = s.busWrite 0xFF41 v ∨ t = s.busWrite 0xFF45 v → asked t (¬ line s ∧ line t)) ∧
          asked (s.busWrite 0xFF40 v) (switchedOn ∧ p.lyc = 0 ∧ en 3))))

/-- R1118 with R138, R142, R206, R210, R212: a write to LCDC that switches the LCD off puts LY, dot, mode and the window line at 0 with
no request; one that switches it on does the same with mode 2 and compares LY with LYC, and requests nothing unless STAT[6] is set and
LYC is 0, so never for mode 2; other writes change only LCDC's bits; with the LCD off a PPU tick does nothing, LY reads 0, STAT reports
mode 0, and VRAM and OAM are not blocked. -/
def Obligations.LcdSwitch : Prop :=
  ∀ (s : State) (v : Byte),
    (let p := s.ppu
     let t := s.busWrite 0xFF40 v
     (s.lcdOn = true → v.getLsbD 7 = false →
       t.ppu = { p with lcdc := v, ly := 0, dot := 0, mode := .hblank, winLine := 0 } ∧ t.intr = s.intr) ∧
     (s.lcdOn = false → v.getLsbD 7 = true →
       t.ppu = { p with
         lcdc := v, ly := 0, dot := 0, mode := .oamScan, winLine := 0, statCoincidence := decide (p.lyc.toNat = 0) } ∧
       (p.statEnables.getLsbD 3 = false ∨ p.lyc.toNat ≠ 0 → t.intr = s.intr)) ∧
     (s.lcdOn = v.getLsbD 7 → t.ppu = { p with lcdc := v } ∧ t.intr = s.intr) ∧
     (s.lcdOn = false → s.ppuTick = s ∧ s.peek 0xFF41 &&& 0x03 = 0 ∧ s.peek 0xFF44 = 0 ∧
       s.vramReadBlocked = false ∧ s.vramWriteBlocked = false ∧ s.oamBlocked = false))

/-- R163, R1080, R1081, R1095: line k is low exactly when a selected group's button k is pressed; a write to P1 and SetButtons store
their bits, and request the Joypad interrupt exactly when some line falls. -/
def Obligations.JoypadLinesAndRequest : Prop :=
  ∀ (s : State) (v : Byte),
    (let low := fun (j : Joypad) (k : Nat) =>
       (!j.select.getLsbD 0 && j.buttons.getLsbD k) || (!j.select.getLsbD 1 && j.buttons.getLsbD (k + 4))
     (∀ k, k < 4 → (joypadLines s.joypad).getLsbD k = !low s.joypad k) ∧
     (s.busWrite 0xFF00 v).joypad = { s.joypad with select := v.extractLsb' 4 2 } ∧
     (s.setButtons v).joypad = { s.joypad with buttons := v } ∧
     ∀ t : State, t = s.busWrite 0xFF00 v ∨ t = s.setButtons v →
       t.intr.ie = s.intr.ie ∧
         (∀ i, i < 4 → t.intr.iflag.getLsbD i = s.intr.iflag.getLsbD i) ∧
         (t.intr.iflag.getLsbD 4 = true ↔
           s.intr.iflag.getLsbD 4 = true ∨ ∃ k, k < 4 ∧ low s.joypad k = false ∧ low t.joypad k = true))

/-- R144, R1090: a write of v to 0xFF46 stores v and copies the 160 bytes from v << 8 to OAM at once, VRAM and OAM blocking aside;
sources at 0xFE00 and above give free bytes; no other place changes. -/
def Obligations.OamDmaCopies : Prop :=
  ∀ (s : State) (v : Byte),
    (let t := s.busWrite 0xFF46 v
     t.dma = v ∧
     (∀ k, k < 160 → Memory.read t.mem (0xFE00 + k) =
       if v.toNat < 0xFE then s.busRead false (BitVec.ofNat 16 (v.toNat * 256 + k)) else Config.dmaHighSrc (s.draws + k)) ∧
     (∀ p, ¬ (0xFE00 ≤ p ∧ p ≤ 0xFE9F) → Memory.read t.mem p = Memory.read s.mem p) ∧
     t.cpu = s.cpu ∧ t.ppu = s.ppu ∧ t.intr = s.intr ∧ t.timer = s.timer ∧ t.mapper = s.mapper ∧ t.cycles = s.cycles)

/-! ## The bus (20_memory.md) -/

/-- R208, R209, R214-R216: a byte written is read back: in WRAM, echo RAM, HRAM and at IE always, in VRAM and OAM when not blocked, in
external RAM while it answers. Echo RAM mirrors WRAM: for k up to 0x1DFF the two addresses read the same byte, and a write through
either is read through the other. -/
def Obligations.ReadAfterWriteAndEcho : Prop :=
  (∀ (s : State) (a : Word) (v : Byte),
    (region a ∈ [Region.wram, Region.echo, Region.hram, Region.ie] ∨
      (region a = .vram ∧ s.vramReadBlocked = false ∧ s.vramWriteBlocked = false) ∨
      (region a = .oam ∧ s.oamBlocked = false) ∨ (region a = .extRam ∧ s.extRamOn = true)) →
    (s.busWrite a v).peek a = v) ∧
  ∀ (s : State) (k : Nat) (v : Byte), k ≤ 0x1DFF →
    (let e := BitVec.ofNat 16 (0xE000 + k)
     let w := BitVec.ofNat 16 (0xC000 + k)
     s.peek e = s.peek w ∧ (s.busWrite e v).peek w = v ∧ (s.busWrite w v).peek e = v ∧ s.busWrite e v = s.busWrite w v)

/-- R206, R210, R211: with the LCD on, in mode 3 a CPU write to VRAM is ignored and, under `VRAM_READ_BLOCK`, a read gives 0xFF; in
modes 2 and 3, under `OAM_BLOCK`, an OAM read gives 0xFF and a write is ignored; the unused range always reads 0xFF and ignores
writes. -/
def Obligations.BlockedAndUnusedRanges : Prop :=
  ∀ (s : State) (a : Word) (v : Byte),
    (s.lcdOn = true → s.ppu.mode = .pixelTransfer → 0x8000 ≤ a.toNat → a.toNat ≤ 0x9FFF →
      s.busWrite a v = s ∧ (s.launch.params.vramReadBlock = true → s.peek a = 0xFF) ∧
        (s.launch.params.vramReadBlock = false → s.peek a = Memory.read s.mem a.toNat)) ∧
    (s.lcdOn = true → s.ppu.mode = .oamScan ∨ s.ppu.mode = .pixelTransfer → s.launch.params.oamBlock = true →
      0xFE00 ≤ a.toNat → a.toNat ≤ 0xFE9F → s.busWrite a v = s ∧ s.peek a = 0xFF) ∧
    (0xFEA0 ≤ a.toNat → a.toNat ≤ 0xFEFF → s.busWrite a v = s ∧ s.peek a = 0xFF)

/-- R205, R253, R266: a write to 0x0000-0x7FFF changes only the mapper registers, and none on a ROM-only cartridge. -/
def Obligations.RomWritesAreMapperCommands : Prop :=
  ∀ (s : State) (a : Word) (v : Byte), a.toNat ≤ 0x7FFF →
    s.busWrite a v = { s with mapper := (s.busWrite a v).mapper } ∧
      (s.launch.cart.mapper = .romOnly → s.busWrite a v = s)

/-- R203, R204, R254-R258, R263, R264: MBC1: each command range writes its register; the window 0x4000-0x7FFF then shows the bank
(upper · 32 + lower) modulo the bank count, 0xFF beyond the image; bank 0 stays at 0x0000-0x3FFF but for the remap option. -/
def Obligations.Mbc1Banking : Prop :=
  ∀ (s : State) (a : Word) (v : Byte) (o : Nat), s.launch.cart.mapper = .mbc1 → s.launch.cart.romBanksOk = true → o < 0x4000 →
    (let m := s.mapper
     (a.toNat ≤ 0x1FFF → (s.busWrite a v).mapper = { m with ramEnabled := decide (v.toNat % 16 = 0xA) }) ∧
     (0x2000 ≤ a.toNat → a.toNat ≤ 0x3FFF →
       (s.busWrite a v).mapper = { m with lower := BitVec.ofNat 5 (if v.toNat % 32 = 0 then 1 else v.toNat % 32) }) ∧
     (0x4000 ≤ a.toNat → a.toNat ≤ 0x5FFF → (s.busWrite a v).mapper = { m with upper := BitVec.ofNat 2 (v.toNat % 4) }) ∧
     (0x6000 ≤ a.toNat → a.toNat ≤ 0x7FFF → (s.busWrite a v).mapper = { m with mode := decide (v.toNat % 2 = 1) }) ∧
     (let bank := (m.upper.toNat * 32 + m.lower.toNat) % s.launch.cart.romBanks
      let bank0 := if s.launch.params.mbc1Bank0Remap = true ∧ m.mode = true then
        m.upper.toNat * 32 % s.launch.cart.romBanks else 0
      let at_ := fun i => if i < s.launch.rom.length then Memory.read s.launch.rom.cells i else 0xFF#8
      s.peek (BitVec.ofNat 16 (0x4000 + o)) = at_ (bank * 0x4000 + o) ∧
        s.peek (BitVec.ofNat 16 o) = at_ (bank0 * 0x4000 + o)))

/-- R204, R259-R264: MBC3 and MBC5: each command range writes its register (MBC3's bank 0 becomes 1, MBC5's does not); the window
0x4000-0x7FFF shows the selected bank modulo the bank count. -/
def Obligations.Mbc3AndMbc5Banking : Prop :=
  ∀ (s : State) (a : Word) (v : Byte) (o : Nat), s.launch.cart.romBanksOk = true → o < 0x4000 →
    (let m := s.mapper
     let u := (s.busWrite a v).mapper
     let at_ := fun i => if i < s.launch.rom.length then Memory.read s.launch.rom.cells i else 0xFF#8
     (s.launch.cart.mapper = .mbc3 →
       (a.toNat ≤ 0x1FFF → u = { m with ramEnabled := decide (v.toNat % 16 = 0xA) }) ∧
       (0x2000 ≤ a.toNat → a.toNat ≤ 0x3FFF →
         u = { m with romBank := BitVec.ofNat 9 (if v.toNat % 128 = 0 then 1 else v.toNat % 128) }) ∧
       (0x4000 ≤ a.toNat → a.toNat ≤ 0x5FFF → u = { m with ramSel := v }) ∧
       (0x6000 ≤ a.toNat → a.toNat ≤ 0x7FFF → u = m)) ∧
     (s.launch.cart.mapper = .mbc5 →
       (a.toNat ≤ 0x1FFF → u = { m with ramEnabled := decide (v.toNat = 0x0A) }) ∧
       (0x2000 ≤ a.toNat → a.toNat ≤ 0x2FFF →
         u = { m with romBank := BitVec.ofNat 9 (m.romBank.toNat / 256 * 256 + v.toNat) }) ∧
       (0x3000 ≤ a.toNat → a.toNat ≤ 0x3FFF →
         u = { m with romBank := BitVec.ofNat 9 (v.toNat % 2 * 256 + m.romBank.toNat % 256) }) ∧
       (0x4000 ≤ a.toNat → a.toNat ≤ 0x5FFF →
         u = { m with ramSel := BitVec.ofNat 8 (v.toNat % if s.launch.cart.rumble = true then 8 else 16) }) ∧
       (0x6000 ≤ a.toNat → a.toNat ≤ 0x7FFF → u = m)) ∧
     (s.launch.cart.mapper = .mbc3 ∨ s.launch.cart.mapper = .mbc5 →
       s.peek (BitVec.ofNat 16 (0x4000 + o)) = at_ (m.romBank.toNat % s.launch.cart.romBanks * 0x4000 + o) ∧
         s.peek (BitVec.ofNat 16 o) = at_ o))

/-- R207, R253, R260, R265: external RAM reads 0xFF and ignores writes when there is none, when it is disabled (a ROM-only cartridge's
never is), or when an MBC3 selects a clock register; otherwise it is byte (bank · 0x2000 + o) mod size of the cartridge RAM. -/
def Obligations.ExternalRam : Prop :=
  ∀ (s : State) (v : Byte) (o : Nat), o < 0x2000 → s.launch.cart.ramSizeOk = true →
    (let a := BitVec.ofNat 16 (0xA000 + o)
     let size := s.launch.cart.ramSize
     let banks := max 1 (size / 8192)
     let on := size ≠ 0 ∧ (s.launch.cart.mapper = .romOnly ∨ s.mapper.ramEnabled = true) ∧
       (s.launch.cart.mapper = .mbc3 → s.mapper.ramSel.toNat ≤ 3)
     let bank := match s.launch.cart.mapper with
       | .romOnly => 0
       | .mbc1 => if s.mapper.mode = true then s.mapper.upper.toNat % banks else 0
       | .mbc3 => s.mapper.ramSel.toNat % banks
       | .mbc5 => s.mapper.ramSel.toNat % banks
     (¬ on → s.peek a = 0xFF ∧ s.busWrite a v = s) ∧
     (on → s.peek a = Memory.read s.mem (0x10000 + (bank * 0x2000 + o) % size) ∧
       s.busWrite a v = s.store (0x10000 + (bank * 0x2000 + o) % size) v))

/-- R130-R152, R212, R213: what I/O reads fix and what I/O writes store: unused bits read 1, read-only bits ignore writes, IF and STAT
and TAC and SC store their bits only, LY and the unmapped addresses ignore writes, the plain registers read back what was written. -/
def Obligations.IoRegistersReadAndStore : Prop :=
  ∀ (s : State) (v : Byte),
    s.peek 0xFF00 &&& 0xC0 = 0xC0 ∧ s.peek 0xFF02 &&& 0x7E = 0x7E ∧ s.peek 0xFF07 &&& 0xF8 = 0xF8 ∧
    s.peek 0xFF0F &&& 0xE0 = 0xE0 ∧ s.peek 0xFF41 &&& 0x80 = 0x80 ∧
    (s.busWrite 0xFF0F v).peek 0xFF0F = v ||| 0xE0 ∧ (s.busWrite 0xFF02 v).peek 0xFF02 = v ||| 0x7E ∧
    (s.busWrite 0xFF07 v).peek 0xFF07 = v ||| 0xF8 ∧
    (s.busWrite 0xFF41 v).peek 0xFF41 = (v &&& 0x78) ||| (s.peek 0xFF41 &&& 0x87) ∧
    (s.busWrite 0xFF04 v).peek 0xFF04 = 0x00 ∧ s.busWrite 0xFF44 v = s ∧
    (∀ a : Word, a ∈ [0xFF01#16, 0xFF05#16, 0xFF06#16, 0xFF40#16, 0xFF42#16, 0xFF43#16, 0xFF45#16, 0xFF46#16, 0xFF47#16,
      0xFF48#16, 0xFF49#16, 0xFF4A#16, 0xFF4B#16, 0xFFFF#16] → (s.busWrite a v).peek a = v) ∧
    (∀ a : Word, a = 0xFF03#16 ∨ (0xFF08 ≤ a.toNat ∧ a.toNat ≤ 0xFF0E) ∨ (0xFF4C ≤ a.toNat ∧ a.toNat ≤ 0xFF7F) →
      s.peek a = 0xFF ∧ s.busWrite a v = s) ∧
    (∀ a : Word, 0xFF10 ≤ a.toNat ∧ a.toNat ≤ 0xFF3F → s.busWrite a v = s ∧ s.peek a = Config.audioRead s.draws ∧
      (s.afterRead a).draws = s.draws + 1)

/-! ## Rendering and the frame -/

/-- R1110-R1117: composing line y writes row y of the framebuffer, 160 shades of it, and no other row, moves the window line by one when
the window covers a column of the line and not otherwise, changes nothing else, and never uses more than `SPRITES_PER_LINE` objects,
each on the line. Column x, from memory bytes and register bits: where no object is a candidate it is BGP's shade of the background or
window colour index there, or shade 0 when LCDC[0] = 0; where some are, the one with the smallest X, and of equal X the lowest in OAM,
gives its palette's shade, unless its priority bit is set and the background's index is not 0. With background and objects off the row
is shade 0 throughout. -/
def Obligations.ComposeLineWritesItsRow : Prop :=
  ∀ (s : State) (y : Nat), y < s.ppu.framebuffer.length →
    (let t := s.composeLine y
     t.ppu.framebuffer.length = s.ppu.framebuffer.length ∧
     (∃ row, t.ppu.framebuffer[y]? = some row ∧ row.length = 160 ∧ row = s.lineShades y ∧
       ∀ x, x < 160 → ∃ (shade : BitVec 2) (back : Nat), row[x]? = some shade ∧ s.isBackColour y x back ∧
         (let behind := if s.ppu.lcdc.getLsbD 0 = true then paletteShade s.ppu.bgp back else 0
          ((∀ i, ¬ s.candidate y x i) → shade.toNat = behind) ∧
          ∀ i, s.candidate y x i →
            (∀ j, s.candidate y x j → (s.oamField i 1).toNat < (s.oamField j 1).toNat ∨
              (s.oamField i 1).toNat = (s.oamField j 1).toNat ∧ i ≤ j) →
            shade.toNat = if (s.oamField i 3).getLsbD 7 = true ∧ back ≠ 0 then behind
              else paletteShade (if (s.oamField i 3).getLsbD 4 = true then s.ppu.obp1 else s.ppu.obp0)
                (s.entryColour y x i))) ∧
     (∀ k, k ≠ y → t.ppu.framebuffer[k]? = s.ppu.framebuffer[k]?) ∧
     (s.windowOn y → t.ppu.winLine = s.ppu.winLine + 1) ∧ (¬ s.windowOn y → t.ppu.winLine = s.ppu.winLine) ∧
     t = { s with ppu := { s.ppu with framebuffer := t.ppu.framebuffer, winLine := t.ppu.winLine } } ∧
     (s.lineObjects y).length ≤ s.launch.params.spritesPerLine ∧
     (∀ o ∈ s.lineObjects y, o.y.toNat ≤ y + 16 ∧ y + 16 < o.y.toNat + (if s.ppu.lcdc.getLsbD 2 = true then 16 else 8)) ∧
     (s.ppu.lcdc.getLsbD 0 = false → s.ppu.lcdc.getLsbD 1 = false → s.lineShades y = List.replicate 160 0))

/-- R1096: RunFrame answers a next state in which a frame has completed, or the CPU is FAULTED, or at least 70224 T-cycles have
passed: the step bound of the model's loop never ends it first. -/
def Obligations.RunFrameEndsWhereTheSpecSays : Prop :=
  ∀ s : State, ∃ t, runFrame s = .next t ∧
    (t.ppu.frameComplete = true ∨ t.cpu.run = .faulted ∨ s.cycles + 70224 ≤ t.cycles)
end

