-- ==== Sys2Proof/Laws/State.lean ====
section
/-! SUPPORT. Beside State: what each update does to each field, true by rfl. -/

namespace Sys2Proof.Machine

/-! ## Updates of one CPU register or latch -/

@[simp] theorem State.setBc_a (s : State) (w : Word) : (s.setBc w).cpu.a = s.cpu.a := rfl
@[simp] theorem State.setBc_f (s : State) (w : Word) : (s.setBc w).cpu.f = s.cpu.f := rfl
@[simp] theorem State.setBc_b (s : State) (w : Word) : (s.setBc w).cpu.b = hi w := rfl
@[simp] theorem State.setBc_c (s : State) (w : Word) : (s.setBc w).cpu.c = lo w := rfl
@[simp] theorem State.setBc_d (s : State) (w : Word) : (s.setBc w).cpu.d = s.cpu.d := rfl
@[simp] theorem State.setBc_e (s : State) (w : Word) : (s.setBc w).cpu.e = s.cpu.e := rfl
@[simp] theorem State.setBc_h (s : State) (w : Word) : (s.setBc w).cpu.h = s.cpu.h := rfl
@[simp] theorem State.setBc_l (s : State) (w : Word) : (s.setBc w).cpu.l = s.cpu.l := rfl
@[simp] theorem State.setBc_sp (s : State) (w : Word) : (s.setBc w).cpu.sp = s.cpu.sp := rfl
@[simp] theorem State.setBc_pc (s : State) (w : Word) : (s.setBc w).cpu.pc = s.cpu.pc := rfl
@[simp] theorem State.setBc_ime (s : State) (w : Word) : (s.setBc w).cpu.ime = s.cpu.ime := rfl
@[simp] theorem State.setBc_eiPending (s : State) (w : Word) : (s.setBc w).cpu.eiPending = s.cpu.eiPending := rfl
@[simp] theorem State.setBc_run (s : State) (w : Word) : (s.setBc w).cpu.run = s.cpu.run := rfl
@[simp] theorem State.setBc_haltBug (s : State) (w : Word) : (s.setBc w).cpu.haltBug = s.cpu.haltBug := rfl
@[simp] theorem State.setBc_fault (s : State) (w : Word) : (s.setBc w).cpu.fault = s.cpu.fault := rfl
@[simp] theorem State.setBc_opAddr (s : State) (w : Word) : (s.setBc w).cpu.opAddr = s.cpu.opAddr := rfl
@[simp] theorem State.setBc_cycles (s : State) (w : Word) : (s.setBc w).cycles = s.cycles := rfl
@[simp] theorem State.setBc_intr (s : State) (w : Word) : (s.setBc w).intr = s.intr := rfl
@[simp] theorem State.setBc_timer (s : State) (w : Word) : (s.setBc w).timer = s.timer := rfl
@[simp] theorem State.setBc_joypad (s : State) (w : Word) : (s.setBc w).joypad = s.joypad := rfl
@[simp] theorem State.setBc_serial (s : State) (w : Word) : (s.setBc w).serial = s.serial := rfl
@[simp] theorem State.setBc_ppu (s : State) (w : Word) : (s.setBc w).ppu = s.ppu := rfl
@[simp] theorem State.setBc_dma (s : State) (w : Word) : (s.setBc w).dma = s.dma := rfl
@[simp] theorem State.setBc_mapper (s : State) (w : Word) : (s.setBc w).mapper = s.mapper := rfl
@[simp] theorem State.setBc_mem (s : State) (w : Word) : (s.setBc w).mem = s.mem := rfl
@[simp] theorem State.setBc_draws (s : State) (w : Word) : (s.setBc w).draws = s.draws := rfl
@[simp] theorem State.setBc_launch (s : State) (w : Word) : (s.setBc w).launch = s.launch := rfl

@[simp] theorem State.setDe_a (s : State) (w : Word) : (s.setDe w).cpu.a = s.cpu.a := rfl
@[simp] theorem State.setDe_f (s : State) (w : Word) : (s.setDe w).cpu.f = s.cpu.f := rfl
@[simp] theorem State.setDe_b (s : State) (w : Word) : (s.setDe w).cpu.b = s.cpu.b := rfl
@[simp] theorem State.setDe_c (s : State) (w : Word) : (s.setDe w).cpu.c = s.cpu.c := rfl
@[simp] theorem State.setDe_d (s : State) (w : Word) : (s.setDe w).cpu.d = hi w := rfl
@[simp] theorem State.setDe_e (s : State) (w : Word) : (s.setDe w).cpu.e = lo w := rfl
@[simp] theorem State.setDe_h (s : State) (w : Word) : (s.setDe w).cpu.h = s.cpu.h := rfl
@[simp] theorem State.setDe_l (s : State) (w : Word) : (s.setDe w).cpu.l = s.cpu.l := rfl
@[simp] theorem State.setDe_sp (s : State) (w : Word) : (s.setDe w).cpu.sp = s.cpu.sp := rfl
@[simp] theorem State.setDe_pc (s : State) (w : Word) : (s.setDe w).cpu.pc = s.cpu.pc := rfl
@[simp] theorem State.setDe_ime (s : State) (w : Word) : (s.setDe w).cpu.ime = s.cpu.ime := rfl
@[simp] theorem State.setDe_eiPending (s : State) (w : Word) : (s.setDe w).cpu.eiPending = s.cpu.eiPending := rfl
@[simp] theorem State.setDe_run (s : State) (w : Word) : (s.setDe w).cpu.run = s.cpu.run := rfl
@[simp] theorem State.setDe_haltBug (s : State) (w : Word) : (s.setDe w).cpu.haltBug = s.cpu.haltBug := rfl
@[simp] theorem State.setDe_fault (s : State) (w : Word) : (s.setDe w).cpu.fault = s.cpu.fault := rfl
@[simp] theorem State.setDe_opAddr (s : State) (w : Word) : (s.setDe w).cpu.opAddr = s.cpu.opAddr := rfl
@[simp] theorem State.setDe_cycles (s : State) (w : Word) : (s.setDe w).cycles = s.cycles := rfl
@[simp] theorem State.setDe_intr (s : State) (w : Word) : (s.setDe w).intr = s.intr := rfl
@[simp] theorem State.setDe_timer (s : State) (w : Word) : (s.setDe w).timer = s.timer := rfl
@[simp] theorem State.setDe_joypad (s : State) (w : Word) : (s.setDe w).joypad = s.joypad := rfl
@[simp] theorem State.setDe_serial (s : State) (w : Word) : (s.setDe w).serial = s.serial := rfl
@[simp] theorem State.setDe_ppu (s : State) (w : Word) : (s.setDe w).ppu = s.ppu := rfl
@[simp] theorem State.setDe_dma (s : State) (w : Word) : (s.setDe w).dma = s.dma := rfl
@[simp] theorem State.setDe_mapper (s : State) (w : Word) : (s.setDe w).mapper = s.mapper := rfl
@[simp] theorem State.setDe_mem (s : State) (w : Word) : (s.setDe w).mem = s.mem := rfl
@[simp] theorem State.setDe_draws (s : State) (w : Word) : (s.setDe w).draws = s.draws := rfl
@[simp] theorem State.setDe_launch (s : State) (w : Word) : (s.setDe w).launch = s.launch := rfl

@[simp] theorem State.setHl_a (s : State) (w : Word) : (s.setHl w).cpu.a = s.cpu.a := rfl
@[simp] theorem State.setHl_f (s : State) (w : Word) : (s.setHl w).cpu.f = s.cpu.f := rfl
@[simp] theorem State.setHl_b (s : State) (w : Word) : (s.setHl w).cpu.b = s.cpu.b := rfl
@[simp] theorem State.setHl_c (s : State) (w : Word) : (s.setHl w).cpu.c = s.cpu.c := rfl
@[simp] theorem State.setHl_d (s : State) (w : Word) : (s.setHl w).cpu.d = s.cpu.d := rfl
@[simp] theorem State.setHl_e (s : State) (w : Word) : (s.setHl w).cpu.e = s.cpu.e := rfl
@[simp] theorem State.setHl_h (s : State) (w : Word) : (s.setHl w).cpu.h = hi w := rfl
@[simp] theorem State.setHl_l (s : State) (w : Word) : (s.setHl w).cpu.l = lo w := rfl
@[simp] theorem State.setHl_sp (s : State) (w : Word) : (s.setHl w).cpu.sp = s.cpu.sp := rfl
@[simp] theorem State.setHl_pc (s : State) (w : Word) : (s.setHl w).cpu.pc = s.cpu.pc := rfl
@[simp] theorem State.setHl_ime (s : State) (w : Word) : (s.setHl w).cpu.ime = s.cpu.ime := rfl
@[simp] theorem State.setHl_eiPending (s : State) (w : Word) : (s.setHl w).cpu.eiPending = s.cpu.eiPending := rfl
@[simp] theorem State.setHl_run (s : State) (w : Word) : (s.setHl w).cpu.run = s.cpu.run := rfl
@[simp] theorem State.setHl_haltBug (s : State) (w : Word) : (s.setHl w).cpu.haltBug = s.cpu.haltBug := rfl
@[simp] theorem State.setHl_fault (s : State) (w : Word) : (s.setHl w).cpu.fault = s.cpu.fault := rfl
@[simp] theorem State.setHl_opAddr (s : State) (w : Word) : (s.setHl w).cpu.opAddr = s.cpu.opAddr := rfl
@[simp] theorem State.setHl_cycles (s : State) (w : Word) : (s.setHl w).cycles = s.cycles := rfl
@[simp] theorem State.setHl_intr (s : State) (w : Word) : (s.setHl w).intr = s.intr := rfl
@[simp] theorem State.setHl_timer (s : State) (w : Word) : (s.setHl w).timer = s.timer := rfl
@[simp] theorem State.setHl_joypad (s : State) (w : Word) : (s.setHl w).joypad = s.joypad := rfl
@[simp] theorem State.setHl_serial (s : State) (w : Word) : (s.setHl w).serial = s.serial := rfl
@[simp] theorem State.setHl_ppu (s : State) (w : Word) : (s.setHl w).ppu = s.ppu := rfl
@[simp] theorem State.setHl_dma (s : State) (w : Word) : (s.setHl w).dma = s.dma := rfl
@[simp] theorem State.setHl_mapper (s : State) (w : Word) : (s.setHl w).mapper = s.mapper := rfl
@[simp] theorem State.setHl_mem (s : State) (w : Word) : (s.setHl w).mem = s.mem := rfl
@[simp] theorem State.setHl_draws (s : State) (w : Word) : (s.setHl w).draws = s.draws := rfl
@[simp] theorem State.setHl_launch (s : State) (w : Word) : (s.setHl w).launch = s.launch := rfl

@[simp] theorem State.setAf_a (s : State) (w : Word) : (s.setAf w).cpu.a = hi w := rfl
@[simp] theorem State.setAf_f (s : State) (w : Word) : (s.setAf w).cpu.f = Flags.ofByte (lo w) := rfl
@[simp] theorem State.setAf_b (s : State) (w : Word) : (s.setAf w).cpu.b = s.cpu.b := rfl
@[simp] theorem State.setAf_c (s : State) (w : Word) : (s.setAf w).cpu.c = s.cpu.c := rfl
@[simp] theorem State.setAf_d (s : State) (w : Word) : (s.setAf w).cpu.d = s.cpu.d := rfl
@[simp] theorem State.setAf_e (s : State) (w : Word) : (s.setAf w).cpu.e = s.cpu.e := rfl
@[simp] theorem State.setAf_h (s : State) (w : Word) : (s.setAf w).cpu.h = s.cpu.h := rfl
@[simp] theorem State.setAf_l (s : State) (w : Word) : (s.setAf w).cpu.l = s.cpu.l := rfl
@[simp] theorem State.setAf_sp (s : State) (w : Word) : (s.setAf w).cpu.sp = s.cpu.sp := rfl
@[simp] theorem State.setAf_pc (s : State) (w : Word) : (s.setAf w).cpu.pc = s.cpu.pc := rfl
@[simp] theorem State.setAf_ime (s : State) (w : Word) : (s.setAf w).cpu.ime = s.cpu.ime := rfl
@[simp] theorem State.setAf_eiPending (s : State) (w : Word) : (s.setAf w).cpu.eiPending = s.cpu.eiPending := rfl
@[simp] theorem State.setAf_run (s : State) (w : Word) : (s.setAf w).cpu.run = s.cpu.run := rfl
@[simp] theorem State.setAf_haltBug (s : State) (w : Word) : (s.setAf w).cpu.haltBug = s.cpu.haltBug := rfl
@[simp] theorem State.setAf_fault (s : State) (w : Word) : (s.setAf w).cpu.fault = s.cpu.fault := rfl
@[simp] theorem State.setAf_opAddr (s : State) (w : Word) : (s.setAf w).cpu.opAddr = s.cpu.opAddr := rfl
@[simp] theorem State.setAf_cycles (s : State) (w : Word) : (s.setAf w).cycles = s.cycles := rfl
@[simp] theorem State.setAf_intr (s : State) (w : Word) : (s.setAf w).intr = s.intr := rfl
@[simp] theorem State.setAf_timer (s : State) (w : Word) : (s.setAf w).timer = s.timer := rfl
@[simp] theorem State.setAf_joypad (s : State) (w : Word) : (s.setAf w).joypad = s.joypad := rfl
@[simp] theorem State.setAf_serial (s : State) (w : Word) : (s.setAf w).serial = s.serial := rfl
@[simp] theorem State.setAf_ppu (s : State) (w : Word) : (s.setAf w).ppu = s.ppu := rfl
@[simp] theorem State.setAf_dma (s : State) (w : Word) : (s.setAf w).dma = s.dma := rfl
@[simp] theorem State.setAf_mapper (s : State) (w : Word) : (s.setAf w).mapper = s.mapper := rfl
@[simp] theorem State.setAf_mem (s : State) (w : Word) : (s.setAf w).mem = s.mem := rfl
@[simp] theorem State.setAf_draws (s : State) (w : Word) : (s.setAf w).draws = s.draws := rfl
@[simp] theorem State.setAf_launch (s : State) (w : Word) : (s.setAf w).launch = s.launch := rfl

@[simp] theorem State.setSp_a (s : State) (w : Word) : (s.setSp w).cpu.a = s.cpu.a := rfl
@[simp] theorem State.setSp_f (s : State) (w : Word) : (s.setSp w).cpu.f = s.cpu.f := rfl
@[simp] theorem State.setSp_b (s : State) (w : Word) : (s.setSp w).cpu.b = s.cpu.b := rfl
@[simp] theorem State.setSp_c (s : State) (w : Word) : (s.setSp w).cpu.c = s.cpu.c := rfl
@[simp] theorem State.setSp_d (s : State) (w : Word) : (s.setSp w).cpu.d = s.cpu.d := rfl
@[simp] theorem State.setSp_e (s : State) (w : Word) : (s.setSp w).cpu.e = s.cpu.e := rfl
@[simp] theorem State.setSp_h (s : State) (w : Word) : (s.setSp w).cpu.h = s.cpu.h := rfl
@[simp] theorem State.setSp_l (s : State) (w : Word) : (s.setSp w).cpu.l = s.cpu.l := rfl
@[simp] theorem State.setSp_sp (s : State) (w : Word) : (s.setSp w).cpu.sp = w := rfl
@[simp] theorem State.setSp_pc (s : State) (w : Word) : (s.setSp w).cpu.pc = s.cpu.pc := rfl
@[simp] theorem State.setSp_ime (s : State) (w : Word) : (s.setSp w).cpu.ime = s.cpu.ime := rfl
@[simp] theorem State.setSp_eiPending (s : State) (w : Word) : (s.setSp w).cpu.eiPending = s.cpu.eiPending := rfl
@[simp] theorem State.setSp_run (s : State) (w : Word) : (s.setSp w).cpu.run = s.cpu.run := rfl
@[simp] theorem State.setSp_haltBug (s : State) (w : Word) : (s.setSp w).cpu.haltBug = s.cpu.haltBug := rfl
@[simp] theorem State.setSp_fault (s : State) (w : Word) : (s.setSp w).cpu.fault = s.cpu.fault := rfl
@[simp] theorem State.setSp_opAddr (s : State) (w : Word) : (s.setSp w).cpu.opAddr = s.cpu.opAddr := rfl
@[simp] theorem State.setSp_cycles (s : State) (w : Word) : (s.setSp w).cycles = s.cycles := rfl
@[simp] theorem State.setSp_intr (s : State) (w : Word) : (s.setSp w).intr = s.intr := rfl
@[simp] theorem State.setSp_timer (s : State) (w : Word) : (s.setSp w).timer = s.timer := rfl
@[simp] theorem State.setSp_joypad (s : State) (w : Word) : (s.setSp w).joypad = s.joypad := rfl
@[simp] theorem State.setSp_serial (s : State) (w : Word) : (s.setSp w).serial = s.serial := rfl
@[simp] theorem State.setSp_ppu (s : State) (w : Word) : (s.setSp w).ppu = s.ppu := rfl
@[simp] theorem State.setSp_dma (s : State) (w : Word) : (s.setSp w).dma = s.dma := rfl
@[simp] theorem State.setSp_mapper (s : State) (w : Word) : (s.setSp w).mapper = s.mapper := rfl
@[simp] theorem State.setSp_mem (s : State) (w : Word) : (s.setSp w).mem = s.mem := rfl
@[simp] theorem State.setSp_draws (s : State) (w : Word) : (s.setSp w).draws = s.draws := rfl
@[simp] theorem State.setSp_launch (s : State) (w : Word) : (s.setSp w).launch = s.launch := rfl

@[simp] theorem State.setPc_a (s : State) (w : Word) : (s.setPc w).cpu.a = s.cpu.a := rfl
@[simp] theorem State.setPc_f (s : State) (w : Word) : (s.setPc w).cpu.f = s.cpu.f := rfl
@[simp] theorem State.setPc_b (s : State) (w : Word) : (s.setPc w).cpu.b = s.cpu.b := rfl
@[simp] theorem State.setPc_c (s : State) (w : Word) : (s.setPc w).cpu.c = s.cpu.c := rfl
@[simp] theorem State.setPc_d (s : State) (w : Word) : (s.setPc w).cpu.d = s.cpu.d := rfl
@[simp] theorem State.setPc_e (s : State) (w : Word) : (s.setPc w).cpu.e = s.cpu.e := rfl
@[simp] theorem State.setPc_h (s : State) (w : Word) : (s.setPc w).cpu.h = s.cpu.h := rfl
@[simp] theorem State.setPc_l (s : State) (w : Word) : (s.setPc w).cpu.l = s.cpu.l := rfl
@[simp] theorem State.setPc_sp (s : State) (w : Word) : (s.setPc w).cpu.sp = s.cpu.sp := rfl
@[simp] theorem State.setPc_pc (s : State) (w : Word) : (s.setPc w).cpu.pc = w := rfl
@[simp] theorem State.setPc_ime (s : State) (w : Word) : (s.setPc w).cpu.ime = s.cpu.ime := rfl
@[simp] theorem State.setPc_eiPending (s : State) (w : Word) : (s.setPc w).cpu.eiPending = s.cpu.eiPending := rfl
@[simp] theorem State.setPc_run (s : State) (w : Word) : (s.setPc w).cpu.run = s.cpu.run := rfl
@[simp] theorem State.setPc_haltBug (s : State) (w : Word) : (s.setPc w).cpu.haltBug = s.cpu.haltBug := rfl
@[simp] theorem State.setPc_fault (s : State) (w : Word) : (s.setPc w).cpu.fault = s.cpu.fault := rfl
@[simp] theorem State.setPc_opAddr (s : State) (w : Word) : (s.setPc w).cpu.opAddr = s.cpu.opAddr := rfl
@[simp] theorem State.setPc_cycles (s : State) (w : Word) : (s.setPc w).cycles = s.cycles := rfl
@[simp] theorem State.setPc_intr (s : State) (w : Word) : (s.setPc w).intr = s.intr := rfl
@[simp] theorem State.setPc_timer (s : State) (w : Word) : (s.setPc w).timer = s.timer := rfl
@[simp] theorem State.setPc_joypad (s : State) (w : Word) : (s.setPc w).joypad = s.joypad := rfl
@[simp] theorem State.setPc_serial (s : State) (w : Word) : (s.setPc w).serial = s.serial := rfl
@[simp] theorem State.setPc_ppu (s : State) (w : Word) : (s.setPc w).ppu = s.ppu := rfl
@[simp] theorem State.setPc_dma (s : State) (w : Word) : (s.setPc w).dma = s.dma := rfl
@[simp] theorem State.setPc_mapper (s : State) (w : Word) : (s.setPc w).mapper = s.mapper := rfl
@[simp] theorem State.setPc_mem (s : State) (w : Word) : (s.setPc w).mem = s.mem := rfl
@[simp] theorem State.setPc_draws (s : State) (w : Word) : (s.setPc w).draws = s.draws := rfl
@[simp] theorem State.setPc_launch (s : State) (w : Word) : (s.setPc w).launch = s.launch := rfl

@[simp] theorem State.setFlags_a (s : State) (f : Flags) : (s.setFlags f).cpu.a = s.cpu.a := rfl
@[simp] theorem State.setFlags_f (s : State) (f : Flags) : (s.setFlags f).cpu.f = f := rfl
@[simp] theorem State.setFlags_b (s : State) (f : Flags) : (s.setFlags f).cpu.b = s.cpu.b := rfl
@[simp] theorem State.setFlags_c (s : State) (f : Flags) : (s.setFlags f).cpu.c = s.cpu.c := rfl
@[simp] theorem State.setFlags_d (s : State) (f : Flags) : (s.setFlags f).cpu.d = s.cpu.d := rfl
@[simp] theorem State.setFlags_e (s : State) (f : Flags) : (s.setFlags f).cpu.e = s.cpu.e := rfl
@[simp] theorem State.setFlags_h (s : State) (f : Flags) : (s.setFlags f).cpu.h = s.cpu.h := rfl
@[simp] theorem State.setFlags_l (s : State) (f : Flags) : (s.setFlags f).cpu.l = s.cpu.l := rfl
@[simp] theorem State.setFlags_sp (s : State) (f : Flags) : (s.setFlags f).cpu.sp = s.cpu.sp := rfl
@[simp] theorem State.setFlags_pc (s : State) (f : Flags) : (s.setFlags f).cpu.pc = s.cpu.pc := rfl
@[simp] theorem State.setFlags_ime (s : State) (f : Flags) : (s.setFlags f).cpu.ime = s.cpu.ime := rfl
@[simp] theorem State.setFlags_eiPending (s : State) (f : Flags) : (s.setFlags f).cpu.eiPending = s.cpu.eiPending := rfl
@[simp] theorem State.setFlags_run (s : State) (f : Flags) : (s.setFlags f).cpu.run = s.cpu.run := rfl
@[simp] theorem State.setFlags_haltBug (s : State) (f : Flags) : (s.setFlags f).cpu.haltBug = s.cpu.haltBug := rfl
@[simp] theorem State.setFlags_fault (s : State) (f : Flags) : (s.setFlags f).cpu.fault = s.cpu.fault := rfl
@[simp] theorem State.setFlags_opAddr (s : State) (f : Flags) : (s.setFlags f).cpu.opAddr = s.cpu.opAddr := rfl
@[simp] theorem State.setFlags_cycles (s : State) (f : Flags) : (s.setFlags f).cycles = s.cycles := rfl
@[simp] theorem State.setFlags_intr (s : State) (f : Flags) : (s.setFlags f).intr = s.intr := rfl
@[simp] theorem State.setFlags_timer (s : State) (f : Flags) : (s.setFlags f).timer = s.timer := rfl
@[simp] theorem State.setFlags_joypad (s : State) (f : Flags) : (s.setFlags f).joypad = s.joypad := rfl
@[simp] theorem State.setFlags_serial (s : State) (f : Flags) : (s.setFlags f).serial = s.serial := rfl
@[simp] theorem State.setFlags_ppu (s : State) (f : Flags) : (s.setFlags f).ppu = s.ppu := rfl
@[simp] theorem State.setFlags_dma (s : State) (f : Flags) : (s.setFlags f).dma = s.dma := rfl
@[simp] theorem State.setFlags_mapper (s : State) (f : Flags) : (s.setFlags f).mapper = s.mapper := rfl
@[simp] theorem State.setFlags_mem (s : State) (f : Flags) : (s.setFlags f).mem = s.mem := rfl
@[simp] theorem State.setFlags_draws (s : State) (f : Flags) : (s.setFlags f).draws = s.draws := rfl
@[simp] theorem State.setFlags_launch (s : State) (f : Flags) : (s.setFlags f).launch = s.launch := rfl

@[simp] theorem State.setIme_a (s : State) (v : Bool) : (s.setIme v).cpu.a = s.cpu.a := rfl
@[simp] theorem State.setIme_f (s : State) (v : Bool) : (s.setIme v).cpu.f = s.cpu.f := rfl
@[simp] theorem State.setIme_b (s : State) (v : Bool) : (s.setIme v).cpu.b = s.cpu.b := rfl
@[simp] theorem State.setIme_c (s : State) (v : Bool) : (s.setIme v).cpu.c = s.cpu.c := rfl
@[simp] theorem State.setIme_d (s : State) (v : Bool) : (s.setIme v).cpu.d = s.cpu.d := rfl
@[simp] theorem State.setIme_e (s : State) (v : Bool) : (s.setIme v).cpu.e = s.cpu.e := rfl
@[simp] theorem State.setIme_h (s : State) (v : Bool) : (s.setIme v).cpu.h = s.cpu.h := rfl
@[simp] theorem State.setIme_l (s : State) (v : Bool) : (s.setIme v).cpu.l = s.cpu.l := rfl
@[simp] theorem State.setIme_sp (s : State) (v : Bool) : (s.setIme v).cpu.sp = s.cpu.sp := rfl
@[simp] theorem State.setIme_pc (s : State) (v : Bool) : (s.setIme v).cpu.pc = s.cpu.pc := rfl
@[simp] theorem State.setIme_ime (s : State) (v : Bool) : (s.setIme v).cpu.ime = v := rfl
@[simp] theorem State.setIme_eiPending (s : State) (v : Bool) : (s.setIme v).cpu.eiPending = s.cpu.eiPending := rfl
@[simp] theorem State.setIme_run (s : State) (v : Bool) : (s.setIme v).cpu.run = s.cpu.run := rfl
@[simp] theorem State.setIme_haltBug (s : State) (v : Bool) : (s.setIme v).cpu.haltBug = s.cpu.haltBug := rfl
@[simp] theorem State.setIme_fault (s : State) (v : Bool) : (s.setIme v).cpu.fault = s.cpu.fault := rfl
@[simp] theorem State.setIme_opAddr (s : State) (v : Bool) : (s.setIme v).cpu.opAddr = s.cpu.opAddr := rfl
@[simp] theorem State.setIme_cycles (s : State) (v : Bool) : (s.setIme v).cycles = s.cycles := rfl
@[simp] theorem State.setIme_intr (s : State) (v : Bool) : (s.setIme v).intr = s.intr := rfl
@[simp] theorem State.setIme_timer (s : State) (v : Bool) : (s.setIme v).timer = s.timer := rfl
@[simp] theorem State.setIme_joypad (s : State) (v : Bool) : (s.setIme v).joypad = s.joypad := rfl
@[simp] theorem State.setIme_serial (s : State) (v : Bool) : (s.setIme v).serial = s.serial := rfl
@[simp] theorem State.setIme_ppu (s : State) (v : Bool) : (s.setIme v).ppu = s.ppu := rfl
@[simp] theorem State.setIme_dma (s : State) (v : Bool) : (s.setIme v).dma = s.dma := rfl
@[simp] theorem State.setIme_mapper (s : State) (v : Bool) : (s.setIme v).mapper = s.mapper := rfl
@[simp] theorem State.setIme_mem (s : State) (v : Bool) : (s.setIme v).mem = s.mem := rfl
@[simp] theorem State.setIme_draws (s : State) (v : Bool) : (s.setIme v).draws = s.draws := rfl
@[simp] theorem State.setIme_launch (s : State) (v : Bool) : (s.setIme v).launch = s.launch := rfl

@[simp] theorem State.setEiPending_a (s : State) (v : Bool) : (s.setEiPending v).cpu.a = s.cpu.a := rfl
@[simp] theorem State.setEiPending_f (s : State) (v : Bool) : (s.setEiPending v).cpu.f = s.cpu.f := rfl
@[simp] theorem State.setEiPending_b (s : State) (v : Bool) : (s.setEiPending v).cpu.b = s.cpu.b := rfl
@[simp] theorem State.setEiPending_c (s : State) (v : Bool) : (s.setEiPending v).cpu.c = s.cpu.c := rfl
@[simp] theorem State.setEiPending_d (s : State) (v : Bool) : (s.setEiPending v).cpu.d = s.cpu.d := rfl
@[simp] theorem State.setEiPending_e (s : State) (v : Bool) : (s.setEiPending v).cpu.e = s.cpu.e := rfl
@[simp] theorem State.setEiPending_h (s : State) (v : Bool) : (s.setEiPending v).cpu.h = s.cpu.h := rfl
@[simp] theorem State.setEiPending_l (s : State) (v : Bool) : (s.setEiPending v).cpu.l = s.cpu.l := rfl
@[simp] theorem State.setEiPending_sp (s : State) (v : Bool) : (s.setEiPending v).cpu.sp = s.cpu.sp := rfl
@[simp] theorem State.setEiPending_pc (s : State) (v : Bool) : (s.setEiPending v).cpu.pc = s.cpu.pc := rfl
@[simp] theorem State.setEiPending_ime (s : State) (v : Bool) : (s.setEiPending v).cpu.ime = s.cpu.ime := rfl
@[simp] theorem State.setEiPending_eiPending (s : State) (v : Bool) : (s.setEiPending v).cpu.eiPending = v := rfl
@[simp] theorem State.setEiPending_run (s : State) (v : Bool) : (s.setEiPending v).cpu.run = s.cpu.run := rfl
@[simp] theorem State.setEiPending_haltBug (s : State) (v : Bool) : (s.setEiPending v).cpu.haltBug = s.cpu.haltBug := rfl
@[simp] theorem State.setEiPending_fault (s : State) (v : Bool) : (s.setEiPending v).cpu.fault = s.cpu.fault := rfl
@[simp] theorem State.setEiPending_opAddr (s : State) (v : Bool) : (s.setEiPending v).cpu.opAddr = s.cpu.opAddr := rfl
@[simp] theorem State.setEiPending_cycles (s : State) (v : Bool) : (s.setEiPending v).cycles = s.cycles := rfl
@[simp] theorem State.setEiPending_intr (s : State) (v : Bool) : (s.setEiPending v).intr = s.intr := rfl
@[simp] theorem State.setEiPending_timer (s : State) (v : Bool) : (s.setEiPending v).timer = s.timer := rfl
@[simp] theorem State.setEiPending_joypad (s : State) (v : Bool) : (s.setEiPending v).joypad = s.joypad := rfl
@[simp] theorem State.setEiPending_serial (s : State) (v : Bool) : (s.setEiPending v).serial = s.serial := rfl
@[simp] theorem State.setEiPending_ppu (s : State) (v : Bool) : (s.setEiPending v).ppu = s.ppu := rfl
@[simp] theorem State.setEiPending_dma (s : State) (v : Bool) : (s.setEiPending v).dma = s.dma := rfl
@[simp] theorem State.setEiPending_mapper (s : State) (v : Bool) : (s.setEiPending v).mapper = s.mapper := rfl
@[simp] theorem State.setEiPending_mem (s : State) (v : Bool) : (s.setEiPending v).mem = s.mem := rfl
@[simp] theorem State.setEiPending_draws (s : State) (v : Bool) : (s.setEiPending v).draws = s.draws := rfl
@[simp] theorem State.setEiPending_launch (s : State) (v : Bool) : (s.setEiPending v).launch = s.launch := rfl

@[simp] theorem State.setRun_a (s : State) (r : RunState) : (s.setRun r).cpu.a = s.cpu.a := rfl
@[simp] theorem State.setRun_f (s : State) (r : RunState) : (s.setRun r).cpu.f = s.cpu.f := rfl
@[simp] theorem State.setRun_b (s : State) (r : RunState) : (s.setRun r).cpu.b = s.cpu.b := rfl
@[simp] theorem State.setRun_c (s : State) (r : RunState) : (s.setRun r).cpu.c = s.cpu.c := rfl
@[simp] theorem State.setRun_d (s : State) (r : RunState) : (s.setRun r).cpu.d = s.cpu.d := rfl
@[simp] theorem State.setRun_e (s : State) (r : RunState) : (s.setRun r).cpu.e = s.cpu.e := rfl
@[simp] theorem State.setRun_h (s : State) (r : RunState) : (s.setRun r).cpu.h = s.cpu.h := rfl
@[simp] theorem State.setRun_l (s : State) (r : RunState) : (s.setRun r).cpu.l = s.cpu.l := rfl
@[simp] theorem State.setRun_sp (s : State) (r : RunState) : (s.setRun r).cpu.sp = s.cpu.sp := rfl
@[simp] theorem State.setRun_pc (s : State) (r : RunState) : (s.setRun r).cpu.pc = s.cpu.pc := rfl
@[simp] theorem State.setRun_ime (s : State) (r : RunState) : (s.setRun r).cpu.ime = s.cpu.ime := rfl
@[simp] theorem State.setRun_eiPending (s : State) (r : RunState) : (s.setRun r).cpu.eiPending = s.cpu.eiPending := rfl
@[simp] theorem State.setRun_run (s : State) (r : RunState) : (s.setRun r).cpu.run = r := rfl
@[simp] theorem State.setRun_haltBug (s : State) (r : RunState) : (s.setRun r).cpu.haltBug = s.cpu.haltBug := rfl
@[simp] theorem State.setRun_fault (s : State) (r : RunState) : (s.setRun r).cpu.fault = s.cpu.fault := rfl
@[simp] theorem State.setRun_opAddr (s : State) (r : RunState) : (s.setRun r).cpu.opAddr = s.cpu.opAddr := rfl
@[simp] theorem State.setRun_cycles (s : State) (r : RunState) : (s.setRun r).cycles = s.cycles := rfl
@[simp] theorem State.setRun_intr (s : State) (r : RunState) : (s.setRun r).intr = s.intr := rfl
@[simp] theorem State.setRun_timer (s : State) (r : RunState) : (s.setRun r).timer = s.timer := rfl
@[simp] theorem State.setRun_joypad (s : State) (r : RunState) : (s.setRun r).joypad = s.joypad := rfl
@[simp] theorem State.setRun_serial (s : State) (r : RunState) : (s.setRun r).serial = s.serial := rfl
@[simp] theorem State.setRun_ppu (s : State) (r : RunState) : (s.setRun r).ppu = s.ppu := rfl
@[simp] theorem State.setRun_dma (s : State) (r : RunState) : (s.setRun r).dma = s.dma := rfl
@[simp] theorem State.setRun_mapper (s : State) (r : RunState) : (s.setRun r).mapper = s.mapper := rfl
@[simp] theorem State.setRun_mem (s : State) (r : RunState) : (s.setRun r).mem = s.mem := rfl
@[simp] theorem State.setRun_draws (s : State) (r : RunState) : (s.setRun r).draws = s.draws := rfl
@[simp] theorem State.setRun_launch (s : State) (r : RunState) : (s.setRun r).launch = s.launch := rfl

@[simp] theorem State.setHaltBug_a (s : State) (v : Bool) : (s.setHaltBug v).cpu.a = s.cpu.a := rfl
@[simp] theorem State.setHaltBug_f (s : State) (v : Bool) : (s.setHaltBug v).cpu.f = s.cpu.f := rfl
@[simp] theorem State.setHaltBug_b (s : State) (v : Bool) : (s.setHaltBug v).cpu.b = s.cpu.b := rfl
@[simp] theorem State.setHaltBug_c (s : State) (v : Bool) : (s.setHaltBug v).cpu.c = s.cpu.c := rfl
@[simp] theorem State.setHaltBug_d (s : State) (v : Bool) : (s.setHaltBug v).cpu.d = s.cpu.d := rfl
@[simp] theorem State.setHaltBug_e (s : State) (v : Bool) : (s.setHaltBug v).cpu.e = s.cpu.e := rfl
@[simp] theorem State.setHaltBug_h (s : State) (v : Bool) : (s.setHaltBug v).cpu.h = s.cpu.h := rfl
@[simp] theorem State.setHaltBug_l (s : State) (v : Bool) : (s.setHaltBug v).cpu.l = s.cpu.l := rfl
@[simp] theorem State.setHaltBug_sp (s : State) (v : Bool) : (s.setHaltBug v).cpu.sp = s.cpu.sp := rfl
@[simp] theorem State.setHaltBug_pc (s : State) (v : Bool) : (s.setHaltBug v).cpu.pc = s.cpu.pc := rfl
@[simp] theorem State.setHaltBug_ime (s : State) (v : Bool) : (s.setHaltBug v).cpu.ime = s.cpu.ime := rfl
@[simp] theorem State.setHaltBug_eiPending (s : State) (v : Bool) : (s.setHaltBug v).cpu.eiPending = s.cpu.eiPending := rfl
@[simp] theorem State.setHaltBug_run (s : State) (v : Bool) : (s.setHaltBug v).cpu.run = s.cpu.run := rfl
@[simp] theorem State.setHaltBug_haltBug (s : State) (v : Bool) : (s.setHaltBug v).cpu.haltBug = v := rfl
@[simp] theorem State.setHaltBug_fault (s : State) (v : Bool) : (s.setHaltBug v).cpu.fault = s.cpu.fault := rfl
@[simp] theorem State.setHaltBug_opAddr (s : State) (v : Bool) : (s.setHaltBug v).cpu.opAddr = s.cpu.opAddr := rfl
@[simp] theorem State.setHaltBug_cycles (s : State) (v : Bool) : (s.setHaltBug v).cycles = s.cycles := rfl
@[simp] theorem State.setHaltBug_intr (s : State) (v : Bool) : (s.setHaltBug v).intr = s.intr := rfl
@[simp] theorem State.setHaltBug_timer (s : State) (v : Bool) : (s.setHaltBug v).timer = s.timer := rfl
@[simp] theorem State.setHaltBug_joypad (s : State) (v : Bool) : (s.setHaltBug v).joypad = s.joypad := rfl
@[simp] theorem State.setHaltBug_serial (s : State) (v : Bool) : (s.setHaltBug v).serial = s.serial := rfl
@[simp] theorem State.setHaltBug_ppu (s : State) (v : Bool) : (s.setHaltBug v).ppu = s.ppu := rfl
@[simp] theorem State.setHaltBug_dma (s : State) (v : Bool) : (s.setHaltBug v).dma = s.dma := rfl
@[simp] theorem State.setHaltBug_mapper (s : State) (v : Bool) : (s.setHaltBug v).mapper = s.mapper := rfl
@[simp] theorem State.setHaltBug_mem (s : State) (v : Bool) : (s.setHaltBug v).mem = s.mem := rfl
@[simp] theorem State.setHaltBug_draws (s : State) (v : Bool) : (s.setHaltBug v).draws = s.draws := rfl
@[simp] theorem State.setHaltBug_launch (s : State) (v : Bool) : (s.setHaltBug v).launch = s.launch := rfl

/-! ## The register write of R10, by register -/

@[simp] theorem State.setR_a (s : State) (v : Byte) : (s.setR .a v).cpu.a = v := rfl
@[simp] theorem State.setR_b_a (s : State) (v : Byte) : (s.setR .b v).cpu.a = s.cpu.a := rfl
@[simp] theorem State.setR_c_a (s : State) (v : Byte) : (s.setR .c v).cpu.a = s.cpu.a := rfl
@[simp] theorem State.setR_d_a (s : State) (v : Byte) : (s.setR .d v).cpu.a = s.cpu.a := rfl
@[simp] theorem State.setR_e_a (s : State) (v : Byte) : (s.setR .e v).cpu.a = s.cpu.a := rfl
@[simp] theorem State.setR_h_a (s : State) (v : Byte) : (s.setR .h v).cpu.a = s.cpu.a := rfl
@[simp] theorem State.setR_l_a (s : State) (v : Byte) : (s.setR .l v).cpu.a = s.cpu.a := rfl
@[simp] theorem State.setR_f (s : State) (r : R8) (v : Byte) : (s.setR r v).cpu.f = s.cpu.f := by cases r <;> rfl
@[simp] theorem State.setR_b (s : State) (v : Byte) : (s.setR .b v).cpu.b = v := rfl
@[simp] theorem State.setR_c_b (s : State) (v : Byte) : (s.setR .c v).cpu.b = s.cpu.b := rfl
@[simp] theorem State.setR_d_b (s : State) (v : Byte) : (s.setR .d v).cpu.b = s.cpu.b := rfl
@[simp] theorem State.setR_e_b (s : State) (v : Byte) : (s.setR .e v).cpu.b = s.cpu.b := rfl
@[simp] theorem State.setR_h_b (s : State) (v : Byte) : (s.setR .h v).cpu.b = s.cpu.b := rfl
@[simp] theorem State.setR_l_b (s : State) (v : Byte) : (s.setR .l v).cpu.b = s.cpu.b := rfl
@[simp] theorem State.setR_a_b (s : State) (v : Byte) : (s.setR .a v).cpu.b = s.cpu.b := rfl
@[simp] theorem State.setR_c (s : State) (v : Byte) : (s.setR .c v).cpu.c = v := rfl
@[simp] theorem State.setR_b_c (s : State) (v : Byte) : (s.setR .b v).cpu.c = s.cpu.c := rfl
@[simp] theorem State.setR_d_c (s : State) (v : Byte) : (s.setR .d v).cpu.c = s.cpu.c := rfl
@[simp] theorem State.setR_e_c (s : State) (v : Byte) : (s.setR .e v).cpu.c = s.cpu.c := rfl
@[simp] theorem State.setR_h_c (s : State) (v : Byte) : (s.setR .h v).cpu.c = s.cpu.c := rfl
@[simp] theorem State.setR_l_c (s : State) (v : Byte) : (s.setR .l v).cpu.c = s.cpu.c := rfl
@[simp] theorem State.setR_a_c (s : State) (v : Byte) : (s.setR .a v).cpu.c = s.cpu.c := rfl
@[simp] theorem State.setR_d (s : State) (v : Byte) : (s.setR .d v).cpu.d = v := rfl
@[simp] theorem State.setR_b_d (s : State) (v : Byte) : (s.setR .b v).cpu.d = s.cpu.d := rfl
@[simp] theorem State.setR_c_d (s : State) (v : Byte) : (s.setR .c v).cpu.d = s.cpu.d := rfl
@[simp] theorem State.setR_e_d (s : State) (v : Byte) : (s.setR .e v).cpu.d = s.cpu.d := rfl
@[simp] theorem State.setR_h_d (s : State) (v : Byte) : (s.setR .h v).cpu.d = s.cpu.d := rfl
@[simp] theorem State.setR_l_d (s : State) (v : Byte) : (s.setR .l v).cpu.d = s.cpu.d := rfl
@[simp] theorem State.setR_a_d (s : State) (v : Byte) : (s.setR .a v).cpu.d = s.cpu.d := rfl
@[simp] theorem State.setR_e (s : State) (v : Byte) : (s.setR .e v).cpu.e = v := rfl
@[simp] theorem State.setR_b_e (s : State) (v : Byte) : (s.setR .b v).cpu.e = s.cpu.e := rfl
@[simp] theorem State.setR_c_e (s : State) (v : Byte) : (s.setR .c v).cpu.e = s.cpu.e := rfl
@[simp] theorem State.setR_d_e (s : State) (v : Byte) : (s.setR .d v).cpu.e = s.cpu.e := rfl
@[simp] theorem State.setR_h_e (s : State) (v : Byte) : (s.setR .h v).cpu.e = s.cpu.e := rfl
@[simp] theorem State.setR_l_e (s : State) (v : Byte) : (s.setR .l v).cpu.e = s.cpu.e := rfl
@[simp] theorem State.setR_a_e (s : State) (v : Byte) : (s.setR .a v).cpu.e = s.cpu.e := rfl
@[simp] theorem State.setR_h (s : State) (v : Byte) : (s.setR .h v).cpu.h = v := rfl
@[simp] theorem State.setR_b_h (s : State) (v : Byte) : (s.setR .b v).cpu.h = s.cpu.h := rfl
@[simp] theorem State.setR_c_h (s : State) (v : Byte) : (s.setR .c v).cpu.h = s.cpu.h := rfl
@[simp] theorem State.setR_d_h (s : State) (v : Byte) : (s.setR .d v).cpu.h = s.cpu.h := rfl
@[simp] theorem State.setR_e_h (s : State) (v : Byte) : (s.setR .e v).cpu.h = s.cpu.h := rfl
@[simp] theorem State.setR_l_h (s : State) (v : Byte) : (s.setR .l v).cpu.h = s.cpu.h := rfl
@[simp] theorem State.setR_a_h (s : State) (v : Byte) : (s.setR .a v).cpu.h = s.cpu.h := rfl
@[simp] theorem State.setR_l (s : State) (v : Byte) : (s.setR .l v).cpu.l = v := rfl
@[simp] theorem State.setR_b_l (s : State) (v : Byte) : (s.setR .b v).cpu.l = s.cpu.l := rfl
@[simp] theorem State.setR_c_l (s : State) (v : Byte) : (s.setR .c v).cpu.l = s.cpu.l := rfl
@[simp] theorem State.setR_d_l (s : State) (v : Byte) : (s.setR .d v).cpu.l = s.cpu.l := rfl
@[simp] theorem State.setR_e_l (s : State) (v : Byte) : (s.setR .e v).cpu.l = s.cpu.l := rfl
@[simp] theorem State.setR_h_l (s : State) (v : Byte) : (s.setR .h v).cpu.l = s.cpu.l := rfl
@[simp] theorem State.setR_a_l (s : State) (v : Byte) : (s.setR .a v).cpu.l = s.cpu.l := rfl
@[simp] theorem State.setR_sp (s : State) (r : R8) (v : Byte) : (s.setR r v).cpu.sp = s.cpu.sp := by cases r <;> rfl
@[simp] theorem State.setR_pc (s : State) (r : R8) (v : Byte) : (s.setR r v).cpu.pc = s.cpu.pc := by cases r <;> rfl
@[simp] theorem State.setR_ime (s : State) (r : R8) (v : Byte) : (s.setR r v).cpu.ime = s.cpu.ime := by cases r <;> rfl
@[simp] theorem State.setR_eiPending (s : State) (r : R8) (v : Byte) : (s.setR r v).cpu.eiPending = s.cpu.eiPending := by cases r <;> rfl
@[simp] theorem State.setR_run (s : State) (r : R8) (v : Byte) : (s.setR r v).cpu.run = s.cpu.run := by cases r <;> rfl
@[simp] theorem State.setR_haltBug (s : State) (r : R8) (v : Byte) : (s.setR r v).cpu.haltBug = s.cpu.haltBug := by cases r <;> rfl
@[simp] theorem State.setR_fault (s : State) (r : R8) (v : Byte) : (s.setR r v).cpu.fault = s.cpu.fault := by cases r <;> rfl
@[simp] theorem State.setR_opAddr (s : State) (r : R8) (v : Byte) : (s.setR r v).cpu.opAddr = s.cpu.opAddr := by cases r <;> rfl
@[simp] theorem State.setR_cycles (s : State) (r : R8) (v : Byte) : (s.setR r v).cycles = s.cycles := by cases r <;> rfl
@[simp] theorem State.setR_intr (s : State) (r : R8) (v : Byte) : (s.setR r v).intr = s.intr := by cases r <;> rfl
@[simp] theorem State.setR_timer (s : State) (r : R8) (v : Byte) : (s.setR r v).timer = s.timer := by cases r <;> rfl
@[simp] theorem State.setR_joypad (s : State) (r : R8) (v : Byte) : (s.setR r v).joypad = s.joypad := by cases r <;> rfl
@[simp] theorem State.setR_serial (s : State) (r : R8) (v : Byte) : (s.setR r v).serial = s.serial := by cases r <;> rfl
@[simp] theorem State.setR_ppu (s : State) (r : R8) (v : Byte) : (s.setR r v).ppu = s.ppu := by cases r <;> rfl
@[simp] theorem State.setR_dma (s : State) (r : R8) (v : Byte) : (s.setR r v).dma = s.dma := by cases r <;> rfl
@[simp] theorem State.setR_mapper (s : State) (r : R8) (v : Byte) : (s.setR r v).mapper = s.mapper := by cases r <;> rfl
@[simp] theorem State.setR_mem (s : State) (r : R8) (v : Byte) : (s.setR r v).mem = s.mem := by cases r <;> rfl
@[simp] theorem State.setR_draws (s : State) (r : R8) (v : Byte) : (s.setR r v).draws = s.draws := by cases r <;> rfl
@[simp] theorem State.setR_launch (s : State) (r : R8) (v : Byte) : (s.setR r v).launch = s.launch := by cases r <;> rfl

/-- Reading any register after a register write. -/
theorem State.getR_setR (s : State) (r q : R8) (v : Byte) :
    (s.setR r v).getR q = if q = r then v else s.getR q := by
  cases r <;> cases q <;> rfl

@[simp] theorem State.getR_setR_same (s : State) (r : R8) (v : Byte) : (s.setR r v).getR r = v := by
  simp [State.getR_setR]

theorem State.getR_setR_other (s : State) (r q : R8) (v : Byte) (h : q ≠ r) :
    (s.setR r v).getR q = s.getR q := by
  simp [State.getR_setR, h]

/-! ## The pair writes of R311 and R312 -/

@[simp] theorem State.setRp_pc (s : State) (r : Rp) (w : Word) : (s.setRp r w).cpu.pc = s.cpu.pc := by cases r <;> rfl
@[simp] theorem State.setRp_ime (s : State) (r : Rp) (w : Word) : (s.setRp r w).cpu.ime = s.cpu.ime := by cases r <;> rfl
@[simp] theorem State.setRp_eiPending (s : State) (r : Rp) (w : Word) : (s.setRp r w).cpu.eiPending = s.cpu.eiPending := by cases r <;> rfl
@[simp] theorem State.setRp_run (s : State) (r : Rp) (w : Word) : (s.setRp r w).cpu.run = s.cpu.run := by cases r <;> rfl
@[simp] theorem State.setRp_haltBug (s : State) (r : Rp) (w : Word) : (s.setRp r w).cpu.haltBug = s.cpu.haltBug := by cases r <;> rfl
@[simp] theorem State.setRp_fault (s : State) (r : Rp) (w : Word) : (s.setRp r w).cpu.fault = s.cpu.fault := by cases r <;> rfl
@[simp] theorem State.setRp_opAddr (s : State) (r : Rp) (w : Word) : (s.setRp r w).cpu.opAddr = s.cpu.opAddr := by cases r <;> rfl
@[simp] theorem State.setRp_cycles (s : State) (r : Rp) (w : Word) : (s.setRp r w).cycles = s.cycles := by cases r <;> rfl
@[simp] theorem State.setRp_intr (s : State) (r : Rp) (w : Word) : (s.setRp r w).intr = s.intr := by cases r <;> rfl
@[simp] theorem State.setRp_timer (s : State) (r : Rp) (w : Word) : (s.setRp r w).timer = s.timer := by cases r <;> rfl
@[simp] theorem State.setRp_joypad (s : State) (r : Rp) (w : Word) : (s.setRp r w).joypad = s.joypad := by cases r <;> rfl
@[simp] theorem State.setRp_serial (s : State) (r : Rp) (w : Word) : (s.setRp r w).serial = s.serial := by cases r <;> rfl
@[simp] theorem State.setRp_ppu (s : State) (r : Rp) (w : Word) : (s.setRp r w).ppu = s.ppu := by cases r <;> rfl
@[simp] theorem State.setRp_dma (s : State) (r : Rp) (w : Word) : (s.setRp r w).dma = s.dma := by cases r <;> rfl
@[simp] theorem State.setRp_mapper (s : State) (r : Rp) (w : Word) : (s.setRp r w).mapper = s.mapper := by cases r <;> rfl
@[simp] theorem State.setRp_mem (s : State) (r : Rp) (w : Word) : (s.setRp r w).mem = s.mem := by cases r <;> rfl
@[simp] theorem State.setRp_draws (s : State) (r : Rp) (w : Word) : (s.setRp r w).draws = s.draws := by cases r <;> rfl
@[simp] theorem State.setRp_launch (s : State) (r : Rp) (w : Word) : (s.setRp r w).launch = s.launch := by cases r <;> rfl
@[simp] theorem State.setRp2_pc (s : State) (r : Rp2) (w : Word) : (s.setRp2 r w).cpu.pc = s.cpu.pc := by cases r <;> rfl
@[simp] theorem State.setRp2_ime (s : State) (r : Rp2) (w : Word) : (s.setRp2 r w).cpu.ime = s.cpu.ime := by cases r <;> rfl
@[simp] theorem State.setRp2_eiPending (s : State) (r : Rp2) (w : Word) : (s.setRp2 r w).cpu.eiPending = s.cpu.eiPending := by cases r <;> rfl
@[simp] theorem State.setRp2_run (s : State) (r : Rp2) (w : Word) : (s.setRp2 r w).cpu.run = s.cpu.run := by cases r <;> rfl
@[simp] theorem State.setRp2_haltBug (s : State) (r : Rp2) (w : Word) : (s.setRp2 r w).cpu.haltBug = s.cpu.haltBug := by cases r <;> rfl
@[simp] theorem State.setRp2_fault (s : State) (r : Rp2) (w : Word) : (s.setRp2 r w).cpu.fault = s.cpu.fault := by cases r <;> rfl
@[simp] theorem State.setRp2_opAddr (s : State) (r : Rp2) (w : Word) : (s.setRp2 r w).cpu.opAddr = s.cpu.opAddr := by cases r <;> rfl
@[simp] theorem State.setRp2_cycles (s : State) (r : Rp2) (w : Word) : (s.setRp2 r w).cycles = s.cycles := by cases r <;> rfl
@[simp] theorem State.setRp2_intr (s : State) (r : Rp2) (w : Word) : (s.setRp2 r w).intr = s.intr := by cases r <;> rfl
@[simp] theorem State.setRp2_timer (s : State) (r : Rp2) (w : Word) : (s.setRp2 r w).timer = s.timer := by cases r <;> rfl
@[simp] theorem State.setRp2_joypad (s : State) (r : Rp2) (w : Word) : (s.setRp2 r w).joypad = s.joypad := by cases r <;> rfl
@[simp] theorem State.setRp2_serial (s : State) (r : Rp2) (w : Word) : (s.setRp2 r w).serial = s.serial := by cases r <;> rfl
@[simp] theorem State.setRp2_ppu (s : State) (r : Rp2) (w : Word) : (s.setRp2 r w).ppu = s.ppu := by cases r <;> rfl
@[simp] theorem State.setRp2_dma (s : State) (r : Rp2) (w : Word) : (s.setRp2 r w).dma = s.dma := by cases r <;> rfl
@[simp] theorem State.setRp2_mapper (s : State) (r : Rp2) (w : Word) : (s.setRp2 r w).mapper = s.mapper := by cases r <;> rfl
@[simp] theorem State.setRp2_mem (s : State) (r : Rp2) (w : Word) : (s.setRp2 r w).mem = s.mem := by cases r <;> rfl
@[simp] theorem State.setRp2_draws (s : State) (r : Rp2) (w : Word) : (s.setRp2 r w).draws = s.draws := by cases r <;> rfl
@[simp] theorem State.setRp2_launch (s : State) (r : Rp2) (w : Word) : (s.setRp2 r w).launch = s.launch := by cases r <;> rfl
@[simp] theorem State.setRp_f (s : State) (r : Rp) (w : Word) : (s.setRp r w).cpu.f = s.cpu.f := by cases r <;> rfl
@[simp] theorem State.setRp2_sp (s : State) (r : Rp2) (w : Word) : (s.setRp2 r w).cpu.sp = s.cpu.sp := by cases r <;> rfl

/-! ## The cycle counter and memory -/

@[simp] theorem State.tick_cpu (s : State) (t : Nat) : (s.tick t).cpu = s.cpu := rfl
@[simp] theorem State.tick_cycles (s : State) (t : Nat) : (s.tick t).cycles = s.cycles + t := rfl
@[simp] theorem State.tick_intr (s : State) (t : Nat) : (s.tick t).intr = s.intr := rfl
@[simp] theorem State.tick_timer (s : State) (t : Nat) : (s.tick t).timer = s.timer := rfl
@[simp] theorem State.tick_joypad (s : State) (t : Nat) : (s.tick t).joypad = s.joypad := rfl
@[simp] theorem State.tick_serial (s : State) (t : Nat) : (s.tick t).serial = s.serial := rfl
@[simp] theorem State.tick_ppu (s : State) (t : Nat) : (s.tick t).ppu = s.ppu := rfl
@[simp] theorem State.tick_dma (s : State) (t : Nat) : (s.tick t).dma = s.dma := rfl
@[simp] theorem State.tick_mapper (s : State) (t : Nat) : (s.tick t).mapper = s.mapper := rfl
@[simp] theorem State.tick_mem (s : State) (t : Nat) : (s.tick t).mem = s.mem := rfl
@[simp] theorem State.tick_draws (s : State) (t : Nat) : (s.tick t).draws = s.draws := rfl
@[simp] theorem State.tick_launch (s : State) (t : Nat) : (s.tick t).launch = s.launch := rfl
@[simp] theorem State.store_cpu (s : State) (p : Nat) (v : Byte) : (s.store p v).cpu = s.cpu := rfl
@[simp] theorem State.store_cycles (s : State) (p : Nat) (v : Byte) : (s.store p v).cycles = s.cycles := rfl
@[simp] theorem State.store_intr (s : State) (p : Nat) (v : Byte) : (s.store p v).intr = s.intr := rfl
@[simp] theorem State.store_timer (s : State) (p : Nat) (v : Byte) : (s.store p v).timer = s.timer := rfl
@[simp] theorem State.store_joypad (s : State) (p : Nat) (v : Byte) : (s.store p v).joypad = s.joypad := rfl
@[simp] theorem State.store_serial (s : State) (p : Nat) (v : Byte) : (s.store p v).serial = s.serial := rfl
@[simp] theorem State.store_ppu (s : State) (p : Nat) (v : Byte) : (s.store p v).ppu = s.ppu := rfl
@[simp] theorem State.store_dma (s : State) (p : Nat) (v : Byte) : (s.store p v).dma = s.dma := rfl
@[simp] theorem State.store_mapper (s : State) (p : Nat) (v : Byte) : (s.store p v).mapper = s.mapper := rfl
@[simp] theorem State.store_mem (s : State) (p : Nat) (v : Byte) : (s.store p v).mem = Memory.write s.mem p v := rfl
@[simp] theorem State.store_draws (s : State) (p : Nat) (v : Byte) : (s.store p v).draws = s.draws := rfl
@[simp] theorem State.store_launch (s : State) (p : Nat) (v : Byte) : (s.store p v).launch = s.launch := rfl

/-! ## Interrupt flag updates -/

@[simp] theorem State.request_cpu (s : State) (i : IntSource) : (s.request i).cpu = s.cpu := rfl
@[simp] theorem State.request_iflag (s : State) (i : IntSource) : (s.request i).intr.iflag = s.intr.iflag ||| (1#5 <<< i.bit) := rfl
@[simp] theorem State.request_ie (s : State) (i : IntSource) : (s.request i).intr.ie = s.intr.ie := rfl
@[simp] theorem State.request_cycles (s : State) (i : IntSource) : (s.request i).cycles = s.cycles := rfl
@[simp] theorem State.request_timer (s : State) (i : IntSource) : (s.request i).timer = s.timer := rfl
@[simp] theorem State.request_joypad (s : State) (i : IntSource) : (s.request i).joypad = s.joypad := rfl
@[simp] theorem State.request_serial (s : State) (i : IntSource) : (s.request i).serial = s.serial := rfl
@[simp] theorem State.request_ppu (s : State) (i : IntSource) : (s.request i).ppu = s.ppu := rfl
@[simp] theorem State.request_dma (s : State) (i : IntSource) : (s.request i).dma = s.dma := rfl
@[simp] theorem State.request_mapper (s : State) (i : IntSource) : (s.request i).mapper = s.mapper := rfl
@[simp] theorem State.request_mem (s : State) (i : IntSource) : (s.request i).mem = s.mem := rfl
@[simp] theorem State.request_draws (s : State) (i : IntSource) : (s.request i).draws = s.draws := rfl
@[simp] theorem State.request_launch (s : State) (i : IntSource) : (s.request i).launch = s.launch := rfl
@[simp] theorem State.acknowledge_cpu (s : State) (i : IntSource) : (s.acknowledge i).cpu = s.cpu := rfl
@[simp] theorem State.acknowledge_iflag (s : State) (i : IntSource) : (s.acknowledge i).intr.iflag = s.intr.iflag &&& ~~~(1#5 <<< i.bit) := rfl
@[simp] theorem State.acknowledge_ie (s : State) (i : IntSource) : (s.acknowledge i).intr.ie = s.intr.ie := rfl
@[simp] theorem State.acknowledge_cycles (s : State) (i : IntSource) : (s.acknowledge i).cycles = s.cycles := rfl
@[simp] theorem State.acknowledge_timer (s : State) (i : IntSource) : (s.acknowledge i).timer = s.timer := rfl
@[simp] theorem State.acknowledge_joypad (s : State) (i : IntSource) : (s.acknowledge i).joypad = s.joypad := rfl
@[simp] theorem State.acknowledge_serial (s : State) (i : IntSource) : (s.acknowledge i).serial = s.serial := rfl
@[simp] theorem State.acknowledge_ppu (s : State) (i : IntSource) : (s.acknowledge i).ppu = s.ppu := rfl
@[simp] theorem State.acknowledge_dma (s : State) (i : IntSource) : (s.acknowledge i).dma = s.dma := rfl
@[simp] theorem State.acknowledge_mapper (s : State) (i : IntSource) : (s.acknowledge i).mapper = s.mapper := rfl
@[simp] theorem State.acknowledge_mem (s : State) (i : IntSource) : (s.acknowledge i).mem = s.mem := rfl
@[simp] theorem State.acknowledge_draws (s : State) (i : IntSource) : (s.acknowledge i).draws = s.draws := rfl
@[simp] theorem State.acknowledge_launch (s : State) (i : IntSource) : (s.acknowledge i).launch = s.launch := rfl

/-! ## Registers and pairs through the other updates -/

@[simp] theorem State.getR_setSp (s : State) (w : Word) (q : R8) : (s.setSp w).getR q = s.getR q := rfl
@[simp] theorem State.hl_setSp (s : State) (w : Word) : (s.setSp w).hl = s.hl := rfl
@[simp] theorem State.getRp2_setSp (s : State) (w : Word) (q : Rp2) : (s.setSp w).getRp2 q = s.getRp2 q := by cases q <;> rfl
@[simp] theorem State.getR_setPc (s : State) (w : Word) (q : R8) : (s.setPc w).getR q = s.getR q := rfl
@[simp] theorem State.hl_setPc (s : State) (w : Word) : (s.setPc w).hl = s.hl := rfl
@[simp] theorem State.getRp_setPc (s : State) (w : Word) (q : Rp) : (s.setPc w).getRp q = s.getRp q := by cases q <;> rfl
@[simp] theorem State.getRp2_setPc (s : State) (w : Word) (q : Rp2) : (s.setPc w).getRp2 q = s.getRp2 q := by cases q <;> rfl
@[simp] theorem State.getR_setFlags (s : State) (f : Flags) (q : R8) : (s.setFlags f).getR q = s.getR q := rfl
@[simp] theorem State.hl_setFlags (s : State) (f : Flags) : (s.setFlags f).hl = s.hl := rfl
@[simp] theorem State.getRp_setFlags (s : State) (f : Flags) (q : Rp) : (s.setFlags f).getRp q = s.getRp q := by cases q <;> rfl
@[simp] theorem State.getR_setIme (s : State) (v : Bool) (q : R8) : (s.setIme v).getR q = s.getR q := rfl
@[simp] theorem State.hl_setIme (s : State) (v : Bool) : (s.setIme v).hl = s.hl := rfl
@[simp] theorem State.getRp_setIme (s : State) (v : Bool) (q : Rp) : (s.setIme v).getRp q = s.getRp q := by cases q <;> rfl
@[simp] theorem State.getRp2_setIme (s : State) (v : Bool) (q : Rp2) : (s.setIme v).getRp2 q = s.getRp2 q := by cases q <;> rfl
@[simp] theorem State.getR_setEiPending (s : State) (v : Bool) (q : R8) : (s.setEiPending v).getR q = s.getR q := rfl
@[simp] theorem State.hl_setEiPending (s : State) (v : Bool) : (s.setEiPending v).hl = s.hl := rfl
@[simp] theorem State.getRp_setEiPending (s : State) (v : Bool) (q : Rp) : (s.setEiPending v).getRp q = s.getRp q := by cases q <;> rfl
@[simp] theorem State.getRp2_setEiPending (s : State) (v : Bool) (q : Rp2) : (s.setEiPending v).getRp2 q = s.getRp2 q := by cases q <;> rfl
@[simp] theorem State.getR_setRun (s : State) (r : RunState) (q : R8) : (s.setRun r).getR q = s.getR q := rfl
@[simp] theorem State.hl_setRun (s : State) (r : RunState) : (s.setRun r).hl = s.hl := rfl
@[simp] theorem State.getRp_setRun (s : State) (r : RunState) (q : Rp) : (s.setRun r).getRp q = s.getRp q := by cases q <;> rfl
@[simp] theorem State.getRp2_setRun (s : State) (r : RunState) (q : Rp2) : (s.setRun r).getRp2 q = s.getRp2 q := by cases q <;> rfl
@[simp] theorem State.getR_setHaltBug (s : State) (v : Bool) (q : R8) : (s.setHaltBug v).getR q = s.getR q := rfl
@[simp] theorem State.hl_setHaltBug (s : State) (v : Bool) : (s.setHaltBug v).hl = s.hl := rfl
@[simp] theorem State.getRp_setHaltBug (s : State) (v : Bool) (q : Rp) : (s.setHaltBug v).getRp q = s.getRp q := by cases q <;> rfl
@[simp] theorem State.getRp2_setHaltBug (s : State) (v : Bool) (q : Rp2) : (s.setHaltBug v).getRp2 q = s.getRp2 q := by cases q <;> rfl
@[simp] theorem State.getR_tick (s : State) (n : Nat) (q : R8) : (s.tick n).getR q = s.getR q := rfl
@[simp] theorem State.hl_tick (s : State) (n : Nat) : (s.tick n).hl = s.hl := rfl
@[simp] theorem State.getRp_tick (s : State) (n : Nat) (q : Rp) : (s.tick n).getRp q = s.getRp q := by cases q <;> rfl
@[simp] theorem State.getRp2_tick (s : State) (n : Nat) (q : Rp2) : (s.tick n).getRp2 q = s.getRp2 q := by cases q <;> rfl

/-! ## Bytes, words and pairs -/

@[simp] theorem hi_cat (x y : Byte) : hi (cat x y) = x := by
  exact BitVec.extractLsb'_append_eq_left

@[simp] theorem lo_cat (x y : Byte) : lo (cat x y) = y := by
  exact BitVec.extractLsb'_append_eq_right

@[simp] theorem cat_hi_lo (w : Word) : cat (hi w) (lo w) = w := by
  apply BitVec.eq_of_getLsbD_eq
  intro i hi'
  simp only [cat, hi, lo, BitVec.getLsbD_append, BitVec.getLsbD_extractLsb']
  by_cases h : i < 8
  · simp [h]
  · have : i - 8 < 8 := by omega
    simp [h, this, show 8 + (i - 8) = i by omega]

@[simp] theorem State.bc_setBc (s : State) (w : Word) : (s.setBc w).bc = w := by simp [State.bc]
@[simp] theorem State.de_setDe (s : State) (w : Word) : (s.setDe w).de = w := by simp [State.de]
@[simp] theorem State.hl_setHl (s : State) (w : Word) : (s.setHl w).hl = w := by simp [State.hl]

/-- A pair written is the pair read. -/
@[simp] theorem State.getRp_setRp (s : State) (r : Rp) (w : Word) : (s.setRp r w).getRp r = w := by
  cases r <;> simp [State.setRp, State.getRp]

/-- F keeps its four flags through the byte. -/
@[simp] theorem Flags.ofByte_toByte (f : Flags) : Flags.ofByte f.toByte = f := by
  obtain ⟨z, n, h, c⟩ := f
  revert z n h c
  decide

/-- The byte of F is the byte written with bits 3-0 cleared (R106). -/
theorem Flags.toByte_ofByte (v : Byte) : (Flags.ofByte v).toByte = v &&& 0xF0 := by
  revert v
  decide

end Sys2Proof.Machine
end

