-- ==== Sys2Proof/Laws/Devices.lean ====
section
/-! SUPPORT. What the devices leave alone: the timer touches only its own registers and IF, the joypad only its own and IF,
the PPU only its own and IF, the mapper only the mapper registers. -/

namespace Sys2Proof.Machine

/-! ## Timer -/

@[simp] theorem State.incTima_cpu (s : State) : (s.incTima).cpu = s.cpu := by
  unfold State.incTima; split <;> rfl
@[simp] theorem State.incTima_cycles (s : State) : (s.incTima).cycles = s.cycles := by
  unfold State.incTima; split <;> rfl
@[simp] theorem State.incTima_joypad (s : State) : (s.incTima).joypad = s.joypad := by
  unfold State.incTima; split <;> rfl
@[simp] theorem State.incTima_serial (s : State) : (s.incTima).serial = s.serial := by
  unfold State.incTima; split <;> rfl
@[simp] theorem State.incTima_ppu (s : State) : (s.incTima).ppu = s.ppu := by
  unfold State.incTima; split <;> rfl
@[simp] theorem State.incTima_dma (s : State) : (s.incTima).dma = s.dma := by
  unfold State.incTima; split <;> rfl
@[simp] theorem State.incTima_mapper (s : State) : (s.incTima).mapper = s.mapper := by
  unfold State.incTima; split <;> rfl
@[simp] theorem State.incTima_mem (s : State) : (s.incTima).mem = s.mem := by
  unfold State.incTima; split <;> rfl
@[simp] theorem State.incTima_draws (s : State) : (s.incTima).draws = s.draws := by
  unfold State.incTima; split <;> rfl
@[simp] theorem State.incTima_launch (s : State) : (s.incTima).launch = s.launch := by
  unfold State.incTima; split <;> rfl
@[simp] theorem State.incTima_ie (s : State) : (s.incTima).intr.ie = s.intr.ie := by
  unfold State.incTima; split <;> rfl

@[simp] theorem State.divWrite_cpu (s : State) : (s.divWrite).cpu = s.cpu := by
  unfold State.divWrite; dsimp only; split <;> simp
@[simp] theorem State.divWrite_cycles (s : State) : (s.divWrite).cycles = s.cycles := by
  unfold State.divWrite; dsimp only; split <;> simp
@[simp] theorem State.divWrite_joypad (s : State) : (s.divWrite).joypad = s.joypad := by
  unfold State.divWrite; dsimp only; split <;> simp
@[simp] theorem State.divWrite_serial (s : State) : (s.divWrite).serial = s.serial := by
  unfold State.divWrite; dsimp only; split <;> simp
@[simp] theorem State.divWrite_ppu (s : State) : (s.divWrite).ppu = s.ppu := by
  unfold State.divWrite; dsimp only; split <;> simp
@[simp] theorem State.divWrite_dma (s : State) : (s.divWrite).dma = s.dma := by
  unfold State.divWrite; dsimp only; split <;> simp
@[simp] theorem State.divWrite_mapper (s : State) : (s.divWrite).mapper = s.mapper := by
  unfold State.divWrite; dsimp only; split <;> simp
@[simp] theorem State.divWrite_mem (s : State) : (s.divWrite).mem = s.mem := by
  unfold State.divWrite; dsimp only; split <;> simp
@[simp] theorem State.divWrite_draws (s : State) : (s.divWrite).draws = s.draws := by
  unfold State.divWrite; dsimp only; split <;> simp
@[simp] theorem State.divWrite_launch (s : State) : (s.divWrite).launch = s.launch := by
  unfold State.divWrite; dsimp only; split <;> simp
@[simp] theorem State.divWrite_ie (s : State) : (s.divWrite).intr.ie = s.intr.ie := by
  unfold State.divWrite; dsimp only; split <;> simp

@[simp] theorem State.tacWrite_cpu (s : State) (v : BitVec 3) : (s.tacWrite v).cpu = s.cpu := by
  unfold State.tacWrite; dsimp only; split <;> simp
@[simp] theorem State.tacWrite_cycles (s : State) (v : BitVec 3) : (s.tacWrite v).cycles = s.cycles := by
  unfold State.tacWrite; dsimp only; split <;> simp
@[simp] theorem State.tacWrite_joypad (s : State) (v : BitVec 3) : (s.tacWrite v).joypad = s.joypad := by
  unfold State.tacWrite; dsimp only; split <;> simp
@[simp] theorem State.tacWrite_serial (s : State) (v : BitVec 3) : (s.tacWrite v).serial = s.serial := by
  unfold State.tacWrite; dsimp only; split <;> simp
@[simp] theorem State.tacWrite_ppu (s : State) (v : BitVec 3) : (s.tacWrite v).ppu = s.ppu := by
  unfold State.tacWrite; dsimp only; split <;> simp
@[simp] theorem State.tacWrite_dma (s : State) (v : BitVec 3) : (s.tacWrite v).dma = s.dma := by
  unfold State.tacWrite; dsimp only; split <;> simp
@[simp] theorem State.tacWrite_mapper (s : State) (v : BitVec 3) : (s.tacWrite v).mapper = s.mapper := by
  unfold State.tacWrite; dsimp only; split <;> simp
@[simp] theorem State.tacWrite_mem (s : State) (v : BitVec 3) : (s.tacWrite v).mem = s.mem := by
  unfold State.tacWrite; dsimp only; split <;> simp
@[simp] theorem State.tacWrite_draws (s : State) (v : BitVec 3) : (s.tacWrite v).draws = s.draws := by
  unfold State.tacWrite; dsimp only; split <;> simp
@[simp] theorem State.tacWrite_launch (s : State) (v : BitVec 3) : (s.tacWrite v).launch = s.launch := by
  unfold State.tacWrite; dsimp only; split <;> simp
@[simp] theorem State.tacWrite_ie (s : State) (v : BitVec 3) : (s.tacWrite v).intr.ie = s.intr.ie := by
  unfold State.tacWrite; dsimp only; split <;> simp

@[simp] theorem State.timerTick_cpu (s : State) : (s.timerTick).cpu = s.cpu := by
  unfold State.timerTick; dsimp only; split <;> simp
@[simp] theorem State.timerTick_cycles (s : State) : (s.timerTick).cycles = s.cycles := by
  unfold State.timerTick; dsimp only; split <;> simp
@[simp] theorem State.timerTick_joypad (s : State) : (s.timerTick).joypad = s.joypad := by
  unfold State.timerTick; dsimp only; split <;> simp
@[simp] theorem State.timerTick_serial (s : State) : (s.timerTick).serial = s.serial := by
  unfold State.timerTick; dsimp only; split <;> simp
@[simp] theorem State.timerTick_ppu (s : State) : (s.timerTick).ppu = s.ppu := by
  unfold State.timerTick; dsimp only; split <;> simp
@[simp] theorem State.timerTick_dma (s : State) : (s.timerTick).dma = s.dma := by
  unfold State.timerTick; dsimp only; split <;> simp
@[simp] theorem State.timerTick_mapper (s : State) : (s.timerTick).mapper = s.mapper := by
  unfold State.timerTick; dsimp only; split <;> simp
@[simp] theorem State.timerTick_mem (s : State) : (s.timerTick).mem = s.mem := by
  unfold State.timerTick; dsimp only; split <;> simp
@[simp] theorem State.timerTick_draws (s : State) : (s.timerTick).draws = s.draws := by
  unfold State.timerTick; dsimp only; split <;> simp
@[simp] theorem State.timerTick_launch (s : State) : (s.timerTick).launch = s.launch := by
  unfold State.timerTick; dsimp only; split <;> simp
@[simp] theorem State.timerTick_ie (s : State) : (s.timerTick).intr.ie = s.intr.ie := by
  unfold State.timerTick; dsimp only; split <;> simp

/-! ## Joypad -/

@[simp] theorem State.joypadCheck_cpu (s : State) (old : BitVec 4) : (s.joypadCheck old).cpu = s.cpu := by
  unfold State.joypadCheck; split <;> rfl
@[simp] theorem State.joypadCheck_cycles (s : State) (old : BitVec 4) : (s.joypadCheck old).cycles = s.cycles := by
  unfold State.joypadCheck; split <;> rfl
@[simp] theorem State.joypadCheck_timer (s : State) (old : BitVec 4) : (s.joypadCheck old).timer = s.timer := by
  unfold State.joypadCheck; split <;> rfl
@[simp] theorem State.joypadCheck_joypad (s : State) (old : BitVec 4) : (s.joypadCheck old).joypad = s.joypad := by
  unfold State.joypadCheck; split <;> rfl
@[simp] theorem State.joypadCheck_serial (s : State) (old : BitVec 4) : (s.joypadCheck old).serial = s.serial := by
  unfold State.joypadCheck; split <;> rfl
@[simp] theorem State.joypadCheck_ppu (s : State) (old : BitVec 4) : (s.joypadCheck old).ppu = s.ppu := by
  unfold State.joypadCheck; split <;> rfl
@[simp] theorem State.joypadCheck_dma (s : State) (old : BitVec 4) : (s.joypadCheck old).dma = s.dma := by
  unfold State.joypadCheck; split <;> rfl
@[simp] theorem State.joypadCheck_mapper (s : State) (old : BitVec 4) : (s.joypadCheck old).mapper = s.mapper := by
  unfold State.joypadCheck; split <;> rfl
@[simp] theorem State.joypadCheck_mem (s : State) (old : BitVec 4) : (s.joypadCheck old).mem = s.mem := by
  unfold State.joypadCheck; split <;> rfl
@[simp] theorem State.joypadCheck_draws (s : State) (old : BitVec 4) : (s.joypadCheck old).draws = s.draws := by
  unfold State.joypadCheck; split <;> rfl
@[simp] theorem State.joypadCheck_launch (s : State) (old : BitVec 4) : (s.joypadCheck old).launch = s.launch := by
  unfold State.joypadCheck; split <;> rfl
@[simp] theorem State.joypadCheck_ie (s : State) (old : BitVec 4) : (s.joypadCheck old).intr.ie = s.intr.ie := by
  unfold State.joypadCheck; split <;> rfl

@[simp] theorem State.p1Write_cpu (s : State) (v : Byte) : (s.p1Write v).cpu = s.cpu := by
  simp [State.p1Write]
@[simp] theorem State.p1Write_cycles (s : State) (v : Byte) : (s.p1Write v).cycles = s.cycles := by
  simp [State.p1Write]
@[simp] theorem State.p1Write_timer (s : State) (v : Byte) : (s.p1Write v).timer = s.timer := by
  simp [State.p1Write]
@[simp] theorem State.p1Write_serial (s : State) (v : Byte) : (s.p1Write v).serial = s.serial := by
  simp [State.p1Write]
@[simp] theorem State.p1Write_ppu (s : State) (v : Byte) : (s.p1Write v).ppu = s.ppu := by
  simp [State.p1Write]
@[simp] theorem State.p1Write_dma (s : State) (v : Byte) : (s.p1Write v).dma = s.dma := by
  simp [State.p1Write]
@[simp] theorem State.p1Write_mapper (s : State) (v : Byte) : (s.p1Write v).mapper = s.mapper := by
  simp [State.p1Write]
@[simp] theorem State.p1Write_mem (s : State) (v : Byte) : (s.p1Write v).mem = s.mem := by
  simp [State.p1Write]
@[simp] theorem State.p1Write_draws (s : State) (v : Byte) : (s.p1Write v).draws = s.draws := by
  simp [State.p1Write]
@[simp] theorem State.p1Write_launch (s : State) (v : Byte) : (s.p1Write v).launch = s.launch := by
  simp [State.p1Write]
@[simp] theorem State.p1Write_ie (s : State) (v : Byte) : (s.p1Write v).intr.ie = s.intr.ie := by
  simp [State.p1Write]

@[simp] theorem State.p1Write_buttons (s : State) (v : Byte) : (s.p1Write v).joypad.buttons = s.joypad.buttons := by
  simp [State.p1Write]

@[simp] theorem State.setButtons_cpu (s : State) (b : Byte) : (s.setButtons b).cpu = s.cpu := by
  simp [State.setButtons]
@[simp] theorem State.setButtons_cycles (s : State) (b : Byte) : (s.setButtons b).cycles = s.cycles := by
  simp [State.setButtons]
@[simp] theorem State.setButtons_timer (s : State) (b : Byte) : (s.setButtons b).timer = s.timer := by
  simp [State.setButtons]
@[simp] theorem State.setButtons_serial (s : State) (b : Byte) : (s.setButtons b).serial = s.serial := by
  simp [State.setButtons]
@[simp] theorem State.setButtons_ppu (s : State) (b : Byte) : (s.setButtons b).ppu = s.ppu := by
  simp [State.setButtons]
@[simp] theorem State.setButtons_dma (s : State) (b : Byte) : (s.setButtons b).dma = s.dma := by
  simp [State.setButtons]
@[simp] theorem State.setButtons_mapper (s : State) (b : Byte) : (s.setButtons b).mapper = s.mapper := by
  simp [State.setButtons]
@[simp] theorem State.setButtons_mem (s : State) (b : Byte) : (s.setButtons b).mem = s.mem := by
  simp [State.setButtons]
@[simp] theorem State.setButtons_draws (s : State) (b : Byte) : (s.setButtons b).draws = s.draws := by
  simp [State.setButtons]
@[simp] theorem State.setButtons_launch (s : State) (b : Byte) : (s.setButtons b).launch = s.launch := by
  simp [State.setButtons]
@[simp] theorem State.setButtons_ie (s : State) (b : Byte) : (s.setButtons b).intr.ie = s.intr.ie := by
  simp [State.setButtons]

/-! ## PPU -/

@[simp] theorem State.statEdge_cpu (b s : State) : (State.statEdge b s).cpu = s.cpu := by
  unfold State.statEdge; split <;> rfl
@[simp] theorem State.statEdge_cycles (b s : State) : (State.statEdge b s).cycles = s.cycles := by
  unfold State.statEdge; split <;> rfl
@[simp] theorem State.statEdge_timer (b s : State) : (State.statEdge b s).timer = s.timer := by
  unfold State.statEdge; split <;> rfl
@[simp] theorem State.statEdge_joypad (b s : State) : (State.statEdge b s).joypad = s.joypad := by
  unfold State.statEdge; split <;> rfl
@[simp] theorem State.statEdge_serial (b s : State) : (State.statEdge b s).serial = s.serial := by
  unfold State.statEdge; split <;> rfl
@[simp] theorem State.statEdge_ppu (b s : State) : (State.statEdge b s).ppu = s.ppu := by
  unfold State.statEdge; split <;> rfl
@[simp] theorem State.statEdge_dma (b s : State) : (State.statEdge b s).dma = s.dma := by
  unfold State.statEdge; split <;> rfl
@[simp] theorem State.statEdge_mapper (b s : State) : (State.statEdge b s).mapper = s.mapper := by
  unfold State.statEdge; split <;> rfl
@[simp] theorem State.statEdge_mem (b s : State) : (State.statEdge b s).mem = s.mem := by
  unfold State.statEdge; split <;> rfl
@[simp] theorem State.statEdge_draws (b s : State) : (State.statEdge b s).draws = s.draws := by
  unfold State.statEdge; split <;> rfl
@[simp] theorem State.statEdge_launch (b s : State) : (State.statEdge b s).launch = s.launch := by
  unfold State.statEdge; split <;> rfl
@[simp] theorem State.statEdge_ie (b s : State) : (State.statEdge b s).intr.ie = s.intr.ie := by
  unfold State.statEdge; split <;> rfl

@[simp] theorem State.setMode_cpu (s : State) (m : PpuMode) : (s.setMode m).cpu = s.cpu := by
  unfold State.setMode; dsimp only; split <;> rfl
@[simp] theorem State.setMode_cycles (s : State) (m : PpuMode) : (s.setMode m).cycles = s.cycles := by
  unfold State.setMode; dsimp only; split <;> rfl
@[simp] theorem State.setMode_timer (s : State) (m : PpuMode) : (s.setMode m).timer = s.timer := by
  unfold State.setMode; dsimp only; split <;> rfl
@[simp] theorem State.setMode_joypad (s : State) (m : PpuMode) : (s.setMode m).joypad = s.joypad := by
  unfold State.setMode; dsimp only; split <;> rfl
@[simp] theorem State.setMode_serial (s : State) (m : PpuMode) : (s.setMode m).serial = s.serial := by
  unfold State.setMode; dsimp only; split <;> rfl
@[simp] theorem State.setMode_dma (s : State) (m : PpuMode) : (s.setMode m).dma = s.dma := by
  unfold State.setMode; dsimp only; split <;> rfl
@[simp] theorem State.setMode_mapper (s : State) (m : PpuMode) : (s.setMode m).mapper = s.mapper := by
  unfold State.setMode; dsimp only; split <;> rfl
@[simp] theorem State.setMode_mem (s : State) (m : PpuMode) : (s.setMode m).mem = s.mem := by
  unfold State.setMode; dsimp only; split <;> rfl
@[simp] theorem State.setMode_draws (s : State) (m : PpuMode) : (s.setMode m).draws = s.draws := by
  unfold State.setMode; dsimp only; split <;> rfl
@[simp] theorem State.setMode_launch (s : State) (m : PpuMode) : (s.setMode m).launch = s.launch := by
  unfold State.setMode; dsimp only; split <;> rfl
@[simp] theorem State.setMode_ie (s : State) (m : PpuMode) : (s.setMode m).intr.ie = s.intr.ie := by
  unfold State.setMode; dsimp only; split <;> rfl

@[simp] theorem State.lycCompare_cpu (s : State) : (s.lycCompare).cpu = s.cpu := by
  unfold State.lycCompare; split
  · dsimp only; split <;> rfl
  · rfl
@[simp] theorem State.lycCompare_cycles (s : State) : (s.lycCompare).cycles = s.cycles := by
  unfold State.lycCompare; split
  · dsimp only; split <;> rfl
  · rfl
@[simp] theorem State.lycCompare_timer (s : State) : (s.lycCompare).timer = s.timer := by
  unfold State.lycCompare; split
  · dsimp only; split <;> rfl
  · rfl
@[simp] theorem State.lycCompare_joypad (s : State) : (s.lycCompare).joypad = s.joypad := by
  unfold State.lycCompare; split
  · dsimp only; split <;> rfl
  · rfl
@[simp] theorem State.lycCompare_serial (s : State) : (s.lycCompare).serial = s.serial := by
  unfold State.lycCompare; split
  · dsimp only; split <;> rfl
  · rfl
@[simp] theorem State.lycCompare_dma (s : State) : (s.lycCompare).dma = s.dma := by
  unfold State.lycCompare; split
  · dsimp only; split <;> rfl
  · rfl
@[simp] theorem State.lycCompare_mapper (s : State) : (s.lycCompare).mapper = s.mapper := by
  unfold State.lycCompare; split
  · dsimp only; split <;> rfl
  · rfl
@[simp] theorem State.lycCompare_mem (s : State) : (s.lycCompare).mem = s.mem := by
  unfold State.lycCompare; split
  · dsimp only; split <;> rfl
  · rfl
@[simp] theorem State.lycCompare_draws (s : State) : (s.lycCompare).draws = s.draws := by
  unfold State.lycCompare; split
  · dsimp only; split <;> rfl
  · rfl
@[simp] theorem State.lycCompare_launch (s : State) : (s.lycCompare).launch = s.launch := by
  unfold State.lycCompare; split
  · dsimp only; split <;> rfl
  · rfl
@[simp] theorem State.lycCompare_ie (s : State) : (s.lycCompare).intr.ie = s.intr.ie := by
  unfold State.lycCompare; split
  · dsimp only; split <;> rfl
  · rfl

@[simp] theorem State.composeLine_cpu (s : State) (y : Nat) : (s.composeLine y).cpu = s.cpu := by
  rfl
@[simp] theorem State.composeLine_cycles (s : State) (y : Nat) : (s.composeLine y).cycles = s.cycles := by
  rfl
@[simp] theorem State.composeLine_intr (s : State) (y : Nat) : (s.composeLine y).intr = s.intr := by
  rfl
@[simp] theorem State.composeLine_timer (s : State) (y : Nat) : (s.composeLine y).timer = s.timer := by
  rfl
@[simp] theorem State.composeLine_joypad (s : State) (y : Nat) : (s.composeLine y).joypad = s.joypad := by
  rfl
@[simp] theorem State.composeLine_serial (s : State) (y : Nat) : (s.composeLine y).serial = s.serial := by
  rfl
@[simp] theorem State.composeLine_dma (s : State) (y : Nat) : (s.composeLine y).dma = s.dma := by
  rfl
@[simp] theorem State.composeLine_mapper (s : State) (y : Nat) : (s.composeLine y).mapper = s.mapper := by
  rfl
@[simp] theorem State.composeLine_mem (s : State) (y : Nat) : (s.composeLine y).mem = s.mem := by
  rfl
@[simp] theorem State.composeLine_draws (s : State) (y : Nat) : (s.composeLine y).draws = s.draws := by
  rfl
@[simp] theorem State.composeLine_launch (s : State) (y : Nat) : (s.composeLine y).launch = s.launch := by
  rfl

@[simp] theorem State.enterVblank_cpu (s : State) : (s.enterVblank).cpu = s.cpu := by
  simp [State.enterVblank]
@[simp] theorem State.enterVblank_cycles (s : State) : (s.enterVblank).cycles = s.cycles := by
  simp [State.enterVblank]
@[simp] theorem State.enterVblank_timer (s : State) : (s.enterVblank).timer = s.timer := by
  simp [State.enterVblank]
@[simp] theorem State.enterVblank_joypad (s : State) : (s.enterVblank).joypad = s.joypad := by
  simp [State.enterVblank]
@[simp] theorem State.enterVblank_serial (s : State) : (s.enterVblank).serial = s.serial := by
  simp [State.enterVblank]
@[simp] theorem State.enterVblank_dma (s : State) : (s.enterVblank).dma = s.dma := by
  simp [State.enterVblank]
@[simp] theorem State.enterVblank_mapper (s : State) : (s.enterVblank).mapper = s.mapper := by
  simp [State.enterVblank]
@[simp] theorem State.enterVblank_mem (s : State) : (s.enterVblank).mem = s.mem := by
  simp [State.enterVblank]
@[simp] theorem State.enterVblank_draws (s : State) : (s.enterVblank).draws = s.draws := by
  simp [State.enterVblank]
@[simp] theorem State.enterVblank_launch (s : State) : (s.enterVblank).launch = s.launch := by
  simp [State.enterVblank]
@[simp] theorem State.enterVblank_ie (s : State) : (s.enterVblank).intr.ie = s.intr.ie := by
  simp [State.enterVblank]

@[simp] theorem State.endLine_cpu (s : State) : (s.endLine).cpu = s.cpu := by
  unfold State.endLine; dsimp only; (repeat' split) <;> simp
@[simp] theorem State.endLine_cycles (s : State) : (s.endLine).cycles = s.cycles := by
  unfold State.endLine; dsimp only; (repeat' split) <;> simp
@[simp] theorem State.endLine_timer (s : State) : (s.endLine).timer = s.timer := by
  unfold State.endLine; dsimp only; (repeat' split) <;> simp
@[simp] theorem State.endLine_joypad (s : State) : (s.endLine).joypad = s.joypad := by
  unfold State.endLine; dsimp only; (repeat' split) <;> simp
@[simp] theorem State.endLine_serial (s : State) : (s.endLine).serial = s.serial := by
  unfold State.endLine; dsimp only; (repeat' split) <;> simp
@[simp] theorem State.endLine_dma (s : State) : (s.endLine).dma = s.dma := by
  unfold State.endLine; dsimp only; (repeat' split) <;> simp
@[simp] theorem State.endLine_mapper (s : State) : (s.endLine).mapper = s.mapper := by
  unfold State.endLine; dsimp only; (repeat' split) <;> simp
@[simp] theorem State.endLine_mem (s : State) : (s.endLine).mem = s.mem := by
  unfold State.endLine; dsimp only; (repeat' split) <;> simp
@[simp] theorem State.endLine_draws (s : State) : (s.endLine).draws = s.draws := by
  unfold State.endLine; dsimp only; (repeat' split) <;> simp
@[simp] theorem State.endLine_launch (s : State) : (s.endLine).launch = s.launch := by
  unfold State.endLine; dsimp only; (repeat' split) <;> simp
@[simp] theorem State.endLine_ie (s : State) : (s.endLine).intr.ie = s.intr.ie := by
  unfold State.endLine; dsimp only; (repeat' split) <;> simp

@[simp] theorem State.ppuAdvance_cpu (s : State) : (s.ppuAdvance).cpu = s.cpu := by
  unfold State.ppuAdvance; dsimp only; (repeat' split) <;> simp
@[simp] theorem State.ppuAdvance_cycles (s : State) : (s.ppuAdvance).cycles = s.cycles := by
  unfold State.ppuAdvance; dsimp only; (repeat' split) <;> simp
@[simp] theorem State.ppuAdvance_timer (s : State) : (s.ppuAdvance).timer = s.timer := by
  unfold State.ppuAdvance; dsimp only; (repeat' split) <;> simp
@[simp] theorem State.ppuAdvance_joypad (s : State) : (s.ppuAdvance).joypad = s.joypad := by
  unfold State.ppuAdvance; dsimp only; (repeat' split) <;> simp
@[simp] theorem State.ppuAdvance_serial (s : State) : (s.ppuAdvance).serial = s.serial := by
  unfold State.ppuAdvance; dsimp only; (repeat' split) <;> simp
@[simp] theorem State.ppuAdvance_dma (s : State) : (s.ppuAdvance).dma = s.dma := by
  unfold State.ppuAdvance; dsimp only; (repeat' split) <;> simp
@[simp] theorem State.ppuAdvance_mapper (s : State) : (s.ppuAdvance).mapper = s.mapper := by
  unfold State.ppuAdvance; dsimp only; (repeat' split) <;> simp
@[simp] theorem State.ppuAdvance_mem (s : State) : (s.ppuAdvance).mem = s.mem := by
  unfold State.ppuAdvance; dsimp only; (repeat' split) <;> simp
@[simp] theorem State.ppuAdvance_draws (s : State) : (s.ppuAdvance).draws = s.draws := by
  unfold State.ppuAdvance; dsimp only; (repeat' split) <;> simp
@[simp] theorem State.ppuAdvance_launch (s : State) : (s.ppuAdvance).launch = s.launch := by
  unfold State.ppuAdvance; dsimp only; (repeat' split) <;> simp
@[simp] theorem State.ppuAdvance_ie (s : State) : (s.ppuAdvance).intr.ie = s.intr.ie := by
  unfold State.ppuAdvance; dsimp only; (repeat' split) <;> simp

@[simp] theorem State.ppuTick_cpu (s : State) : (s.ppuTick).cpu = s.cpu := by
  unfold State.ppuTick; split <;> simp
@[simp] theorem State.ppuTick_cycles (s : State) : (s.ppuTick).cycles = s.cycles := by
  unfold State.ppuTick; split <;> simp
@[simp] theorem State.ppuTick_timer (s : State) : (s.ppuTick).timer = s.timer := by
  unfold State.ppuTick; split <;> simp
@[simp] theorem State.ppuTick_joypad (s : State) : (s.ppuTick).joypad = s.joypad := by
  unfold State.ppuTick; split <;> simp
@[simp] theorem State.ppuTick_serial (s : State) : (s.ppuTick).serial = s.serial := by
  unfold State.ppuTick; split <;> simp
@[simp] theorem State.ppuTick_dma (s : State) : (s.ppuTick).dma = s.dma := by
  unfold State.ppuTick; split <;> simp
@[simp] theorem State.ppuTick_mapper (s : State) : (s.ppuTick).mapper = s.mapper := by
  unfold State.ppuTick; split <;> simp
@[simp] theorem State.ppuTick_mem (s : State) : (s.ppuTick).mem = s.mem := by
  unfold State.ppuTick; split <;> simp
@[simp] theorem State.ppuTick_draws (s : State) : (s.ppuTick).draws = s.draws := by
  unfold State.ppuTick; split <;> simp
@[simp] theorem State.ppuTick_launch (s : State) : (s.ppuTick).launch = s.launch := by
  unfold State.ppuTick; split <;> simp
@[simp] theorem State.ppuTick_ie (s : State) : (s.ppuTick).intr.ie = s.intr.ie := by
  unfold State.ppuTick; split <;> simp

@[simp] theorem State.restartLine_cpu (s : State) (m : PpuMode) : (s.restartLine m).cpu = s.cpu := by
  rfl
@[simp] theorem State.restartLine_cycles (s : State) (m : PpuMode) : (s.restartLine m).cycles = s.cycles := by
  rfl
@[simp] theorem State.restartLine_intr (s : State) (m : PpuMode) : (s.restartLine m).intr = s.intr := by
  rfl
@[simp] theorem State.restartLine_timer (s : State) (m : PpuMode) : (s.restartLine m).timer = s.timer := by
  rfl
@[simp] theorem State.restartLine_joypad (s : State) (m : PpuMode) : (s.restartLine m).joypad = s.joypad := by
  rfl
@[simp] theorem State.restartLine_serial (s : State) (m : PpuMode) : (s.restartLine m).serial = s.serial := by
  rfl
@[simp] theorem State.restartLine_dma (s : State) (m : PpuMode) : (s.restartLine m).dma = s.dma := by
  rfl
@[simp] theorem State.restartLine_mapper (s : State) (m : PpuMode) : (s.restartLine m).mapper = s.mapper := by
  rfl
@[simp] theorem State.restartLine_mem (s : State) (m : PpuMode) : (s.restartLine m).mem = s.mem := by
  rfl
@[simp] theorem State.restartLine_draws (s : State) (m : PpuMode) : (s.restartLine m).draws = s.draws := by
  rfl
@[simp] theorem State.restartLine_launch (s : State) (m : PpuMode) : (s.restartLine m).launch = s.launch := by
  rfl

@[simp] theorem State.switchOnEdge_cpu (s : State) : (s.switchOnEdge).cpu = s.cpu := by
  unfold State.switchOnEdge; split <;> rfl
@[simp] theorem State.switchOnEdge_cycles (s : State) : (s.switchOnEdge).cycles = s.cycles := by
  unfold State.switchOnEdge; split <;> rfl
@[simp] theorem State.switchOnEdge_timer (s : State) : (s.switchOnEdge).timer = s.timer := by
  unfold State.switchOnEdge; split <;> rfl
@[simp] theorem State.switchOnEdge_joypad (s : State) : (s.switchOnEdge).joypad = s.joypad := by
  unfold State.switchOnEdge; split <;> rfl
@[simp] theorem State.switchOnEdge_serial (s : State) : (s.switchOnEdge).serial = s.serial := by
  unfold State.switchOnEdge; split <;> rfl
@[simp] theorem State.switchOnEdge_ppu (s : State) : (s.switchOnEdge).ppu = s.ppu := by
  unfold State.switchOnEdge; split <;> rfl
@[simp] theorem State.switchOnEdge_dma (s : State) : (s.switchOnEdge).dma = s.dma := by
  unfold State.switchOnEdge; split <;> rfl
@[simp] theorem State.switchOnEdge_mapper (s : State) : (s.switchOnEdge).mapper = s.mapper := by
  unfold State.switchOnEdge; split <;> rfl
@[simp] theorem State.switchOnEdge_mem (s : State) : (s.switchOnEdge).mem = s.mem := by
  unfold State.switchOnEdge; split <;> rfl
@[simp] theorem State.switchOnEdge_draws (s : State) : (s.switchOnEdge).draws = s.draws := by
  unfold State.switchOnEdge; split <;> rfl
@[simp] theorem State.switchOnEdge_launch (s : State) : (s.switchOnEdge).launch = s.launch := by
  unfold State.switchOnEdge; split <;> rfl
@[simp] theorem State.switchOnEdge_ie (s : State) : (s.switchOnEdge).intr.ie = s.intr.ie := by
  unfold State.switchOnEdge; split <;> rfl

@[simp] theorem State.lcdcWrite_cpu (s : State) (v : Byte) : (s.lcdcWrite v).cpu = s.cpu := by
  unfold State.lcdcWrite; dsimp only; (repeat' split) <;> simp
@[simp] theorem State.lcdcWrite_cycles (s : State) (v : Byte) : (s.lcdcWrite v).cycles = s.cycles := by
  unfold State.lcdcWrite; dsimp only; (repeat' split) <;> simp
@[simp] theorem State.lcdcWrite_timer (s : State) (v : Byte) : (s.lcdcWrite v).timer = s.timer := by
  unfold State.lcdcWrite; dsimp only; (repeat' split) <;> simp
@[simp] theorem State.lcdcWrite_joypad (s : State) (v : Byte) : (s.lcdcWrite v).joypad = s.joypad := by
  unfold State.lcdcWrite; dsimp only; (repeat' split) <;> simp
@[simp] theorem State.lcdcWrite_serial (s : State) (v : Byte) : (s.lcdcWrite v).serial = s.serial := by
  unfold State.lcdcWrite; dsimp only; (repeat' split) <;> simp
@[simp] theorem State.lcdcWrite_dma (s : State) (v : Byte) : (s.lcdcWrite v).dma = s.dma := by
  unfold State.lcdcWrite; dsimp only; (repeat' split) <;> simp
@[simp] theorem State.lcdcWrite_mapper (s : State) (v : Byte) : (s.lcdcWrite v).mapper = s.mapper := by
  unfold State.lcdcWrite; dsimp only; (repeat' split) <;> simp
@[simp] theorem State.lcdcWrite_mem (s : State) (v : Byte) : (s.lcdcWrite v).mem = s.mem := by
  unfold State.lcdcWrite; dsimp only; (repeat' split) <;> simp
@[simp] theorem State.lcdcWrite_draws (s : State) (v : Byte) : (s.lcdcWrite v).draws = s.draws := by
  unfold State.lcdcWrite; dsimp only; (repeat' split) <;> simp
@[simp] theorem State.lcdcWrite_launch (s : State) (v : Byte) : (s.lcdcWrite v).launch = s.launch := by
  unfold State.lcdcWrite; dsimp only; (repeat' split) <;> simp
@[simp] theorem State.lcdcWrite_ie (s : State) (v : Byte) : (s.lcdcWrite v).intr.ie = s.intr.ie := by
  unfold State.lcdcWrite; dsimp only; (repeat' split) <;> simp

@[simp] theorem State.statWrite_cpu (s : State) (v : Byte) : (s.statWrite v).cpu = s.cpu := by
  simp [State.statWrite]
@[simp] theorem State.statWrite_cycles (s : State) (v : Byte) : (s.statWrite v).cycles = s.cycles := by
  simp [State.statWrite]
@[simp] theorem State.statWrite_timer (s : State) (v : Byte) : (s.statWrite v).timer = s.timer := by
  simp [State.statWrite]
@[simp] theorem State.statWrite_joypad (s : State) (v : Byte) : (s.statWrite v).joypad = s.joypad := by
  simp [State.statWrite]
@[simp] theorem State.statWrite_serial (s : State) (v : Byte) : (s.statWrite v).serial = s.serial := by
  simp [State.statWrite]
@[simp] theorem State.statWrite_dma (s : State) (v : Byte) : (s.statWrite v).dma = s.dma := by
  simp [State.statWrite]
@[simp] theorem State.statWrite_mapper (s : State) (v : Byte) : (s.statWrite v).mapper = s.mapper := by
  simp [State.statWrite]
@[simp] theorem State.statWrite_mem (s : State) (v : Byte) : (s.statWrite v).mem = s.mem := by
  simp [State.statWrite]
@[simp] theorem State.statWrite_draws (s : State) (v : Byte) : (s.statWrite v).draws = s.draws := by
  simp [State.statWrite]
@[simp] theorem State.statWrite_launch (s : State) (v : Byte) : (s.statWrite v).launch = s.launch := by
  simp [State.statWrite]
@[simp] theorem State.statWrite_ie (s : State) (v : Byte) : (s.statWrite v).intr.ie = s.intr.ie := by
  simp [State.statWrite]

@[simp] theorem State.lycWrite_cpu (s : State) (v : Byte) : (s.lycWrite v).cpu = s.cpu := by
  simp [State.lycWrite]
@[simp] theorem State.lycWrite_cycles (s : State) (v : Byte) : (s.lycWrite v).cycles = s.cycles := by
  simp [State.lycWrite]
@[simp] theorem State.lycWrite_timer (s : State) (v : Byte) : (s.lycWrite v).timer = s.timer := by
  simp [State.lycWrite]
@[simp] theorem State.lycWrite_joypad (s : State) (v : Byte) : (s.lycWrite v).joypad = s.joypad := by
  simp [State.lycWrite]
@[simp] theorem State.lycWrite_serial (s : State) (v : Byte) : (s.lycWrite v).serial = s.serial := by
  simp [State.lycWrite]
@[simp] theorem State.lycWrite_dma (s : State) (v : Byte) : (s.lycWrite v).dma = s.dma := by
  simp [State.lycWrite]
@[simp] theorem State.lycWrite_mapper (s : State) (v : Byte) : (s.lycWrite v).mapper = s.mapper := by
  simp [State.lycWrite]
@[simp] theorem State.lycWrite_mem (s : State) (v : Byte) : (s.lycWrite v).mem = s.mem := by
  simp [State.lycWrite]
@[simp] theorem State.lycWrite_draws (s : State) (v : Byte) : (s.lycWrite v).draws = s.draws := by
  simp [State.lycWrite]
@[simp] theorem State.lycWrite_launch (s : State) (v : Byte) : (s.lycWrite v).launch = s.launch := by
  simp [State.lycWrite]
@[simp] theorem State.lycWrite_ie (s : State) (v : Byte) : (s.lycWrite v).intr.ie = s.intr.ie := by
  simp [State.lycWrite]

/-! ## Mapper -/

@[simp] theorem State.mapperWrite_cpu (s : State) (a : Word) (v : Byte) : (s.mapperWrite a v).cpu = s.cpu := by
  unfold State.mapperWrite; split <;> rfl
@[simp] theorem State.mapperWrite_cycles (s : State) (a : Word) (v : Byte) : (s.mapperWrite a v).cycles = s.cycles := by
  unfold State.mapperWrite; split <;> rfl
@[simp] theorem State.mapperWrite_intr (s : State) (a : Word) (v : Byte) : (s.mapperWrite a v).intr = s.intr := by
  unfold State.mapperWrite; split <;> rfl
@[simp] theorem State.mapperWrite_timer (s : State) (a : Word) (v : Byte) : (s.mapperWrite a v).timer = s.timer := by
  unfold State.mapperWrite; split <;> rfl
@[simp] theorem State.mapperWrite_joypad (s : State) (a : Word) (v : Byte) : (s.mapperWrite a v).joypad = s.joypad := by
  unfold State.mapperWrite; split <;> rfl
@[simp] theorem State.mapperWrite_serial (s : State) (a : Word) (v : Byte) : (s.mapperWrite a v).serial = s.serial := by
  unfold State.mapperWrite; split <;> rfl
@[simp] theorem State.mapperWrite_ppu (s : State) (a : Word) (v : Byte) : (s.mapperWrite a v).ppu = s.ppu := by
  unfold State.mapperWrite; split <;> rfl
@[simp] theorem State.mapperWrite_dma (s : State) (a : Word) (v : Byte) : (s.mapperWrite a v).dma = s.dma := by
  unfold State.mapperWrite; split <;> rfl
@[simp] theorem State.mapperWrite_mem (s : State) (a : Word) (v : Byte) : (s.mapperWrite a v).mem = s.mem := by
  unfold State.mapperWrite; split <;> rfl
@[simp] theorem State.mapperWrite_draws (s : State) (a : Word) (v : Byte) : (s.mapperWrite a v).draws = s.draws := by
  unfold State.mapperWrite; split <;> rfl
@[simp] theorem State.mapperWrite_launch (s : State) (a : Word) (v : Byte) : (s.mapperWrite a v).launch = s.launch := by
  unfold State.mapperWrite; split <;> rfl

/-! ## Device time -/

@[simp] theorem State.deviceTick_cpu (s : State) : (s.deviceTick).cpu = s.cpu := by
  simp [State.deviceTick]
@[simp] theorem State.deviceTick_cycles (s : State) : (s.deviceTick).cycles = s.cycles := by
  simp [State.deviceTick]
@[simp] theorem State.deviceTick_joypad (s : State) : (s.deviceTick).joypad = s.joypad := by
  simp [State.deviceTick]
@[simp] theorem State.deviceTick_serial (s : State) : (s.deviceTick).serial = s.serial := by
  simp [State.deviceTick]
@[simp] theorem State.deviceTick_dma (s : State) : (s.deviceTick).dma = s.dma := by
  simp [State.deviceTick]
@[simp] theorem State.deviceTick_mapper (s : State) : (s.deviceTick).mapper = s.mapper := by
  simp [State.deviceTick]
@[simp] theorem State.deviceTick_mem (s : State) : (s.deviceTick).mem = s.mem := by
  simp [State.deviceTick]
@[simp] theorem State.deviceTick_draws (s : State) : (s.deviceTick).draws = s.draws := by
  simp [State.deviceTick]
@[simp] theorem State.deviceTick_launch (s : State) : (s.deviceTick).launch = s.launch := by
  simp [State.deviceTick]
@[simp] theorem State.deviceTick_ie (s : State) : (s.deviceTick).intr.ie = s.intr.ie := by
  simp [State.deviceTick]

/-! Any number of T-cycles of the devices. -/

@[simp] theorem State.advanceDevices_cpu (n : Nat) (s : State) : (State.advanceDevices n s).cpu = s.cpu := by
  induction n generalizing s with
  | zero => rfl
  | succ n ih => rw [State.advanceDevices, ih, State.deviceTick_cpu]
@[simp] theorem State.advanceDevices_cycles (n : Nat) (s : State) : (State.advanceDevices n s).cycles = s.cycles := by
  induction n generalizing s with
  | zero => rfl
  | succ n ih => rw [State.advanceDevices, ih, State.deviceTick_cycles]
@[simp] theorem State.advanceDevices_joypad (n : Nat) (s : State) : (State.advanceDevices n s).joypad = s.joypad := by
  induction n generalizing s with
  | zero => rfl
  | succ n ih => rw [State.advanceDevices, ih, State.deviceTick_joypad]
@[simp] theorem State.advanceDevices_serial (n : Nat) (s : State) : (State.advanceDevices n s).serial = s.serial := by
  induction n generalizing s with
  | zero => rfl
  | succ n ih => rw [State.advanceDevices, ih, State.deviceTick_serial]
@[simp] theorem State.advanceDevices_dma (n : Nat) (s : State) : (State.advanceDevices n s).dma = s.dma := by
  induction n generalizing s with
  | zero => rfl
  | succ n ih => rw [State.advanceDevices, ih, State.deviceTick_dma]
@[simp] theorem State.advanceDevices_mapper (n : Nat) (s : State) : (State.advanceDevices n s).mapper = s.mapper := by
  induction n generalizing s with
  | zero => rfl
  | succ n ih => rw [State.advanceDevices, ih, State.deviceTick_mapper]
@[simp] theorem State.advanceDevices_mem (n : Nat) (s : State) : (State.advanceDevices n s).mem = s.mem := by
  induction n generalizing s with
  | zero => rfl
  | succ n ih => rw [State.advanceDevices, ih, State.deviceTick_mem]
@[simp] theorem State.advanceDevices_draws (n : Nat) (s : State) : (State.advanceDevices n s).draws = s.draws := by
  induction n generalizing s with
  | zero => rfl
  | succ n ih => rw [State.advanceDevices, ih, State.deviceTick_draws]
@[simp] theorem State.advanceDevices_launch (n : Nat) (s : State) : (State.advanceDevices n s).launch = s.launch := by
  induction n generalizing s with
  | zero => rfl
  | succ n ih => rw [State.advanceDevices, ih, State.deviceTick_launch]
@[simp] theorem State.advanceDevices_ie (n : Nat) (s : State) : (State.advanceDevices n s).intr.ie = s.intr.ie := by
  induction n generalizing s with
  | zero => rfl
  | succ n ih => rw [State.advanceDevices, ih, State.deviceTick_ie]

/-- Device time splits. -/
theorem State.advanceDevices_add (m n : Nat) (s : State) :
    State.advanceDevices (m + n) s = State.advanceDevices n (State.advanceDevices m s) := by
  induction m generalizing s with
  | zero => simp [State.advanceDevices]
  | succ m ih => rw [Nat.succ_add, State.advanceDevices, ih]; rfl

/-- One more T-cycle at the end. -/
theorem State.advanceDevices_succ (n : Nat) (s : State) :
    State.advanceDevices (n + 1) s = (State.advanceDevices n s).deviceTick := by
  rw [State.advanceDevices_add]; rfl

end Sys2Proof.Machine
end

