-- ==== Sys2Proof/Laws/Memory.lean ====
section
/-! SUPPORT. The memory list: reading after writing, and the canonical form that every write keeps. -/

namespace Sys2Proof.Machine

theorem Memory.read_filter_self (m : Memory) (p : Nat) :
    Memory.read (m.filter (fun c => c.1 != p)) p = Memory.unlisted := by
  induction m with
  | nil => rfl
  | cons c m ih =>
    by_cases h : c.1 = p
    · simp [h, ih]
    · simp [h, Memory.read, ih]

theorem Memory.read_filter_other (m : Memory) (p q : Nat) (hq : q ≠ p) :
    Memory.read (m.filter (fun c => c.1 != p)) q = Memory.read m q := by
  induction m with
  | nil => rfl
  | cons c m ih =>
    by_cases h : c.1 = p
    · simp [h, Memory.read, ih, Ne.symm hq]
    · simp [h, Memory.read, ih]

theorem Memory.read_insert_self (m : Memory) (p : Nat) (v : Byte) : Memory.read (Memory.insert m p v) p = v := by
  induction m with
  | nil => simp [Memory.insert, Memory.read]
  | cons c m ih =>
    unfold Memory.insert
    split
    · simp [Memory.read]
    · split
      · simp [Memory.read]
      · rename_i h1 h2
        simp only [Memory.read]
        rw [if_neg (by omega), ih]

theorem Memory.read_insert_other (m : Memory) (p q : Nat) (v : Byte) (hq : q ≠ p) :
    Memory.read (Memory.insert m p v) q = Memory.read m q := by
  induction m with
  | nil => simp [Memory.insert, Memory.read, Ne.symm hq]
  | cons c m ih =>
    unfold Memory.insert
    split
    · simp [Memory.read, Ne.symm hq]
    · split
      · rename_i h
        simp only [Memory.read]
        rw [if_neg (Ne.symm hq), if_neg (by omega)]
      · simp only [Memory.read, ih]

/-- A byte written is the byte read. -/
@[simp] theorem Memory.read_write_same (m : Memory) (p : Nat) (v : Byte) : Memory.read (Memory.write m p v) p = v := by
  unfold Memory.write
  split
  · rw [Memory.read_filter_self]; simp [*]
  · exact Memory.read_insert_self m p v

/-- A write leaves every other place alone. -/
theorem Memory.read_write_other (m : Memory) (p q : Nat) (v : Byte) (hq : q ≠ p) :
    Memory.read (Memory.write m p v) q = Memory.read m q := by
  unfold Memory.write
  split
  · exact Memory.read_filter_other m p q hq
  · exact Memory.read_insert_other m p q v hq

theorem Memory.wf_filter (m : Memory) (f : Host.Cell → Bool) (h : Memory.wf m = true) :
    Memory.wf (m.filter f) = true := by
  induction m with
  | nil => rfl
  | cons c m ih =>
    simp only [Memory.wf, Bool.and_eq_true, bne_iff_ne, ne_eq, List.all_eq_true, decide_eq_true_eq] at h
    rw [List.filter_cons]
    split
    · simp only [Memory.wf, Bool.and_eq_true, bne_iff_ne, ne_eq, List.all_eq_true, decide_eq_true_eq]
      exact ⟨⟨h.1.1, fun x hx => h.1.2 x (List.mem_filter.mp hx).1⟩, ih h.2⟩
    · exact ih h.2

theorem Memory.mem_insert (m : Memory) (p : Nat) (v : Byte) (x : Host.Cell)
    (hx : x ∈ Memory.insert m p v) : x = (p, v) ∨ x ∈ m := by
  induction m with
  | nil => simpa [Memory.insert] using hx
  | cons c m ih =>
    unfold Memory.insert at hx
    split at hx
    · simpa using hx
    · split at hx
      · rcases List.mem_cons.mp hx with h | h
        · exact .inl h
        · exact .inr (List.mem_cons_of_mem _ h)
      · rcases List.mem_cons.mp hx with h | h
        · exact .inr (h ▸ List.mem_cons_self ..)
        · rcases ih h with h | h
          · exact .inl h
          · exact .inr (List.mem_cons_of_mem _ h)

theorem Memory.wf_insert (m : Memory) (p : Nat) (v : Byte) (hv : v ≠ Memory.unlisted)
    (h : Memory.wf m = true) : Memory.wf (Memory.insert m p v) = true := by
  induction m with
  | nil => simp [Memory.insert, Memory.wf, hv]
  | cons c m ih =>
    have hm := h
    simp only [Memory.wf, Bool.and_eq_true, bne_iff_ne, ne_eq, List.all_eq_true, decide_eq_true_eq] at h
    unfold Memory.insert
    split
    · rename_i hlt
      rw [Memory.wf]
      simp only [Bool.and_eq_true, bne_iff_ne, ne_eq, List.all_eq_true, decide_eq_true_eq, hm, and_true]
      refine ⟨hv, fun x hx => ?_⟩
      rcases List.mem_cons.mp hx with h' | h'
      · simpa [h'] using hlt
      · have := h.1.2 x h'; omega
    · split
      · rename_i heq
        simp only [Memory.wf, Bool.and_eq_true, bne_iff_ne, ne_eq, List.all_eq_true, decide_eq_true_eq]
        exact ⟨⟨hv, fun x hx => heq ▸ h.1.2 x hx⟩, h.2⟩
      · simp only [Memory.wf, Bool.and_eq_true, bne_iff_ne, ne_eq, List.all_eq_true, decide_eq_true_eq]
        refine ⟨⟨h.1.1, fun x hx => ?_⟩, ih h.2⟩
        rcases Memory.mem_insert _ _ _ _ hx with h' | h'
        · simp [h']; omega
        · exact h.1.2 x h'

/-- Every write keeps the canonical form. -/
theorem Memory.wf_write (m : Memory) (p : Nat) (v : Byte) (h : Memory.wf m = true) :
    Memory.wf (Memory.write m p v) = true := by
  unfold Memory.write
  split
  · exact Memory.wf_filter _ _ h
  · exact Memory.wf_insert _ _ _ ‹_› h

/-- A write to a permitted place keeps every listed place permitted. -/
theorem Memory.within_write (ok : Nat → Bool) (m : Memory) (p : Nat) (v : Byte) (hp : ok p = true)
    (h : Memory.within ok m = true) : Memory.within ok (Memory.write m p v) = true := by
  unfold Memory.within at h ⊢
  rw [List.all_eq_true] at h ⊢
  intro x hx
  unfold Memory.write at hx
  split at hx
  · exact h x (List.mem_filter.mp hx).1
  · rcases Memory.mem_insert _ _ _ _ hx with h' | h'
    · simpa [h'] using hp
    · exact h x h'

theorem Memory.read_unlisted_of_lt (m : Memory) (p : Nat) (h : ∀ c ∈ m, p < c.1) :
    Memory.read m p = Memory.unlisted := by
  induction m with
  | nil => rfl
  | cons c m ih =>
    have := h c (List.mem_cons_self ..)
    rw [Memory.read, if_neg (by omega)]
    exact ih fun x hx => h x (List.mem_cons_of_mem _ hx)

/-- Canonical memories that read alike are equal: equal memories are equal data. -/
theorem Memory.eq_of_read (m k : Memory) (hm : Memory.wf m = true) (hk : Memory.wf k = true)
    (h : ∀ p, Memory.read m p = Memory.read k p) : m = k := by
  induction m generalizing k with
  | nil =>
    cases k with
    | nil => rfl
    | cons c k =>
      simp only [Memory.wf, Bool.and_eq_true, bne_iff_ne, ne_eq] at hk
      have := h c.1
      simp only [Memory.read, if_pos] at this
      exact absurd this.symm hk.1.1
  | cons c m ih =>
    cases k with
    | nil =>
      simp only [Memory.wf, Bool.and_eq_true, bne_iff_ne, ne_eq] at hm
      have := h c.1
      simp only [Memory.read, if_pos] at this
      exact absurd this hm.1.1
    | cons d k =>
      simp only [Memory.wf, Bool.and_eq_true, bne_iff_ne, ne_eq, List.all_eq_true, decide_eq_true_eq] at hm hk
      have hcd : c.1 = d.1 := by
        rcases Nat.lt_trichotomy c.1 d.1 with hlt | heq | hlt
        · have e := h c.1
          rw [Memory.read, if_pos rfl, Memory.read, if_neg (by omega),
            Memory.read_unlisted_of_lt k c.1 fun x hx => by have := hk.1.2 x hx; omega] at e
          exact absurd e hm.1.1
        · exact heq
        · have e := h d.1
          rw [Memory.read, if_neg (by omega),
            Memory.read_unlisted_of_lt m d.1 fun x hx => by have := hm.1.2 x hx; omega,
            Memory.read, if_pos rfl] at e
          exact absurd e.symm hk.1.1
      have hv : c.2 = d.2 := by
        have e := h c.1
        rwa [Memory.read, if_pos rfl, Memory.read, if_pos hcd.symm] at e
      have htail : m = k := by
        refine ih k hm.2 hk.2 fun p => ?_
        by_cases hp : p ≤ c.1
        · rw [Memory.read_unlisted_of_lt m p fun x hx => by have := hm.1.2 x hx; omega,
            Memory.read_unlisted_of_lt k p fun x hx => by have := hk.1.2 x hx; omega]
        · have e := h p
          rwa [Memory.read, if_neg (by omega), Memory.read, if_neg (by omega)] at e
      rw [Prod.ext hcd hv, htail]

end Sys2Proof.Machine
end

