-- ==== Sys2Proof/Laws/Bus.lean ====
section
/-! SUPPORT. What a bus access can do, once: which fields a write can reach, where in memory it stores, and what the stack
operations and the exception entries change. -/

namespace Sys2Proof.Machine

/-! ## Reads -/

@[simp] theorem State.afterRead_of_not_audio (s : State) (a : Word) (h : isAudio a = false) : s.afterRead a = s := by
  simp [State.afterRead, h]

@[simp] theorem State.afterRead_cpu (s : State) (a : Word) : (s.afterRead a).cpu = s.cpu := by
  unfold State.afterRead; split <;> rfl
@[simp] theorem State.afterRead_cycles (s : State) (a : Word) : (s.afterRead a).cycles = s.cycles := by
  unfold State.afterRead; split <;> rfl
@[simp] theorem State.afterRead_intr (s : State) (a : Word) : (s.afterRead a).intr = s.intr := by
  unfold State.afterRead; split <;> rfl
@[simp] theorem State.afterRead_timer (s : State) (a : Word) : (s.afterRead a).timer = s.timer := by
  unfold State.afterRead; split <;> rfl
@[simp] theorem State.afterRead_joypad (s : State) (a : Word) : (s.afterRead a).joypad = s.joypad := by
  unfold State.afterRead; split <;> rfl
@[simp] theorem State.afterRead_serial (s : State) (a : Word) : (s.afterRead a).serial = s.serial := by
  unfold State.afterRead; split <;> rfl
@[simp] theorem State.afterRead_ppu (s : State) (a : Word) : (s.afterRead a).ppu = s.ppu := by
  unfold State.afterRead; split <;> rfl
@[simp] theorem State.afterRead_dma (s : State) (a : Word) : (s.afterRead a).dma = s.dma := by
  unfold State.afterRead; split <;> rfl
@[simp] theorem State.afterRead_mapper (s : State) (a : Word) : (s.afterRead a).mapper = s.mapper := by
  unfold State.afterRead; split <;> rfl
@[simp] theorem State.afterRead_mem (s : State) (a : Word) : (s.afterRead a).mem = s.mem := by
  unfold State.afterRead; split <;> rfl
@[simp] theorem State.afterRead_launch (s : State) (a : Word) : (s.afterRead a).launch = s.launch := by
  unfold State.afterRead; split <;> rfl
@[simp] theorem State.getR_afterRead (s : State) (a : Word) (q : R8) : (s.afterRead a).getR q = s.getR q := by
  cases q <;> simp [State.getR]
@[simp] theorem State.hl_afterRead (s : State) (a : Word) : (s.afterRead a).hl = s.hl := by simp [State.hl]

/-- After a read, only the model's count of draws can differ. -/
theorem State.afterRead_eq (s : State) (a : Word) : ∃ d, s.afterRead a = { s with draws := d } := by
  unfold State.afterRead
  split
  · exact ⟨_, rfl⟩
  · exact ⟨s.draws, rfl⟩

/-- A byte read depends on nothing that an audio draw changes, outside the audio range. -/
theorem State.busRead_draws (s : State) (n : Nat) (b : Bool) (a : Word) (h : isAudio a = false) :
    State.busRead { s with draws := n } b a = s.busRead b a := by
  unfold State.busRead
  split <;> try rfl
  rename_i hr
  cases hi : ioReg a <;> first | rfl | simp [isAudio, hr, hi] at h

/-- A byte read outside the audio range is the same after any read. -/
theorem State.peek_afterRead (s : State) (a b : Word) (h : isAudio b = false) : (s.afterRead a).peek b = s.peek b := by
  unfold State.afterRead
  split
  · exact State.busRead_draws s _ true b h
  · rfl

/-- The CPU's registers and the cycle counter are not on the bus. -/
theorem State.busRead_cpu (s : State) (c : Cpu) (n : Nat) (b : Bool) (a : Word) :
    State.busRead { s with cpu := c, cycles := n } b a = s.busRead b a := rfl

/-! ## Writes -/

@[simp] theorem State.storeAt_cpu (s : State) (a : Word) (v : Byte) : (s.storeAt a v).cpu = s.cpu := by
  unfold State.storeAt; split <;> rfl
@[simp] theorem State.storeAt_cycles (s : State) (a : Word) (v : Byte) : (s.storeAt a v).cycles = s.cycles := by
  unfold State.storeAt; split <;> rfl
@[simp] theorem State.storeAt_intr (s : State) (a : Word) (v : Byte) : (s.storeAt a v).intr = s.intr := by
  unfold State.storeAt; split <;> rfl
@[simp] theorem State.storeAt_timer (s : State) (a : Word) (v : Byte) : (s.storeAt a v).timer = s.timer := by
  unfold State.storeAt; split <;> rfl
@[simp] theorem State.storeAt_joypad (s : State) (a : Word) (v : Byte) : (s.storeAt a v).joypad = s.joypad := by
  unfold State.storeAt; split <;> rfl
@[simp] theorem State.storeAt_serial (s : State) (a : Word) (v : Byte) : (s.storeAt a v).serial = s.serial := by
  unfold State.storeAt; split <;> rfl
@[simp] theorem State.storeAt_ppu (s : State) (a : Word) (v : Byte) : (s.storeAt a v).ppu = s.ppu := by
  unfold State.storeAt; split <;> rfl
@[simp] theorem State.storeAt_dma (s : State) (a : Word) (v : Byte) : (s.storeAt a v).dma = s.dma := by
  unfold State.storeAt; split <;> rfl
@[simp] theorem State.storeAt_mapper (s : State) (a : Word) (v : Byte) : (s.storeAt a v).mapper = s.mapper := by
  unfold State.storeAt; split <;> rfl
@[simp] theorem State.storeAt_draws (s : State) (a : Word) (v : Byte) : (s.storeAt a v).draws = s.draws := by
  unfold State.storeAt; split <;> rfl
@[simp] theorem State.storeAt_launch (s : State) (a : Word) (v : Byte) : (s.storeAt a v).launch = s.launch := by
  unfold State.storeAt; split <;> rfl
@[simp] theorem State.oamDmaByte_cpu (page : Byte) (s : State) (k : Nat) : (State.oamDmaByte page s k).cpu = s.cpu := by
  unfold State.oamDmaByte; split <;> rfl
@[simp] theorem State.oamDmaByte_cycles (page : Byte) (s : State) (k : Nat) : (State.oamDmaByte page s k).cycles = s.cycles := by
  unfold State.oamDmaByte; split <;> rfl
@[simp] theorem State.oamDmaByte_intr (page : Byte) (s : State) (k : Nat) : (State.oamDmaByte page s k).intr = s.intr := by
  unfold State.oamDmaByte; split <;> rfl
@[simp] theorem State.oamDmaByte_timer (page : Byte) (s : State) (k : Nat) : (State.oamDmaByte page s k).timer = s.timer := by
  unfold State.oamDmaByte; split <;> rfl
@[simp] theorem State.oamDmaByte_joypad (page : Byte) (s : State) (k : Nat) : (State.oamDmaByte page s k).joypad = s.joypad := by
  unfold State.oamDmaByte; split <;> rfl
@[simp] theorem State.oamDmaByte_serial (page : Byte) (s : State) (k : Nat) : (State.oamDmaByte page s k).serial = s.serial := by
  unfold State.oamDmaByte; split <;> rfl
@[simp] theorem State.oamDmaByte_ppu (page : Byte) (s : State) (k : Nat) : (State.oamDmaByte page s k).ppu = s.ppu := by
  unfold State.oamDmaByte; split <;> rfl
@[simp] theorem State.oamDmaByte_dma (page : Byte) (s : State) (k : Nat) : (State.oamDmaByte page s k).dma = s.dma := by
  unfold State.oamDmaByte; split <;> rfl
@[simp] theorem State.oamDmaByte_mapper (page : Byte) (s : State) (k : Nat) : (State.oamDmaByte page s k).mapper = s.mapper := by
  unfold State.oamDmaByte; split <;> rfl
@[simp] theorem State.oamDmaByte_launch (page : Byte) (s : State) (k : Nat) : (State.oamDmaByte page s k).launch = s.launch := by
  unfold State.oamDmaByte; split <;> rfl

/-- A fold keeps what each of its steps keeps. -/
theorem foldl_keeps {α β γ : Type} (f : α → β → α) (g : α → γ) (hf : ∀ a b, g (f a b) = g a) (l : List β) (a : α) :
    g (l.foldl f a) = g a := by
  induction l generalizing a with
  | nil => rfl
  | cons b l ih => rw [List.foldl_cons, ih, hf]

@[simp] theorem State.oamDma_cpu (s : State) (v : Byte) : (s.oamDma v).cpu = s.cpu :=
  foldl_keeps _ State.cpu (fun s k => State.oamDmaByte_cpu v s k) _ _
@[simp] theorem State.oamDma_cycles (s : State) (v : Byte) : (s.oamDma v).cycles = s.cycles :=
  foldl_keeps _ State.cycles (fun s k => State.oamDmaByte_cycles v s k) _ _
@[simp] theorem State.oamDma_intr (s : State) (v : Byte) : (s.oamDma v).intr = s.intr :=
  foldl_keeps _ State.intr (fun s k => State.oamDmaByte_intr v s k) _ _
@[simp] theorem State.oamDma_timer (s : State) (v : Byte) : (s.oamDma v).timer = s.timer :=
  foldl_keeps _ State.timer (fun s k => State.oamDmaByte_timer v s k) _ _
@[simp] theorem State.oamDma_joypad (s : State) (v : Byte) : (s.oamDma v).joypad = s.joypad :=
  foldl_keeps _ State.joypad (fun s k => State.oamDmaByte_joypad v s k) _ _
@[simp] theorem State.oamDma_serial (s : State) (v : Byte) : (s.oamDma v).serial = s.serial :=
  foldl_keeps _ State.serial (fun s k => State.oamDmaByte_serial v s k) _ _
@[simp] theorem State.oamDma_ppu (s : State) (v : Byte) : (s.oamDma v).ppu = s.ppu :=
  foldl_keeps _ State.ppu (fun s k => State.oamDmaByte_ppu v s k) _ _
@[simp] theorem State.oamDma_dma (s : State) (v : Byte) : (s.oamDma v).dma = s.dma :=
  foldl_keeps _ State.dma (fun s k => State.oamDmaByte_dma v s k) _ _
@[simp] theorem State.oamDma_mapper (s : State) (v : Byte) : (s.oamDma v).mapper = s.mapper :=
  foldl_keeps _ State.mapper (fun s k => State.oamDmaByte_mapper v s k) _ _
@[simp] theorem State.oamDma_launch (s : State) (v : Byte) : (s.oamDma v).launch = s.launch :=
  foldl_keeps _ State.launch (fun s k => State.oamDmaByte_launch v s k) _ _

@[simp] theorem State.ioWrite_cpu (s : State) (r : IoReg) (v : Byte) : (s.ioWrite r v).cpu = s.cpu := by
  cases r <;> simp [State.ioWrite]
@[simp] theorem State.ioWrite_cycles (s : State) (r : IoReg) (v : Byte) : (s.ioWrite r v).cycles = s.cycles := by
  cases r <;> simp [State.ioWrite]
@[simp] theorem State.ioWrite_mapper (s : State) (r : IoReg) (v : Byte) : (s.ioWrite r v).mapper = s.mapper := by
  cases r <;> simp [State.ioWrite]
@[simp] theorem State.ioWrite_launch (s : State) (r : IoReg) (v : Byte) : (s.ioWrite r v).launch = s.launch := by
  cases r <;> simp [State.ioWrite]
@[simp] theorem State.ioWrite_buttons (s : State) (r : IoReg) (v : Byte) :
    (s.ioWrite r v).joypad.buttons = s.joypad.buttons := by
  cases r <;> simp [State.ioWrite]
@[simp] theorem State.ioWrite_ie (s : State) (r : IoReg) (v : Byte) : (s.ioWrite r v).intr.ie = s.intr.ie := by
  cases r <;> simp [State.ioWrite]

@[simp] theorem State.busWrite_cpu (s : State) (a : Word) (v : Byte) : (s.busWrite a v).cpu = s.cpu := by
  unfold State.busWrite; split <;> (try split) <;> simp
@[simp] theorem State.busWrite_cycles (s : State) (a : Word) (v : Byte) : (s.busWrite a v).cycles = s.cycles := by
  unfold State.busWrite; split <;> (try split) <;> simp
@[simp] theorem State.busWrite_launch (s : State) (a : Word) (v : Byte) : (s.busWrite a v).launch = s.launch := by
  unfold State.busWrite; split <;> (try split) <;> simp
@[simp] theorem State.getR_busWrite (s : State) (a : Word) (v : Byte) (q : R8) : (s.busWrite a v).getR q = s.getR q := by
  cases q <;> simp [State.getR]
@[simp] theorem State.hl_busWrite (s : State) (a : Word) (v : Byte) : (s.busWrite a v).hl = s.hl := by simp [State.hl]
@[simp] theorem State.busWrite_buttons (s : State) (a : Word) (v : Byte) :
    (s.busWrite a v).joypad.buttons = s.joypad.buttons := by
  unfold State.busWrite; split <;> (try split) <;> simp

/-- What a bus write is: a mapper command, a store in a memory place, an I/O register's write, IE, or nothing. -/
theorem State.busWrite_cases (s : State) (a : Word) (v : Byte) :
    s.busWrite a v = s ∨ (a.toNat ≤ 0x7FFF ∧ s.busWrite a v = s.mapperWrite a v) ∨
      (∃ p, s.place a = some p ∧ s.busWrite a v = s.store p v) ∨
      (region a = .io ∧ s.busWrite a v = s.ioWrite (ioReg a) v) ∨
      (region a = .ie ∧ s.busWrite a v = { s with intr := { s.intr with ie := v } }) := by
  have hst : s.storeAt a v = s ∨ ∃ p, s.place a = some p ∧ s.storeAt a v = s.store p v := by
    unfold State.storeAt
    split
    · rename_i p hp; exact .inr ⟨p, hp, rfl⟩
    · exact .inl rfl
  have hmap : region a = .rom0 ∨ region a = .romX → a.toNat ≤ 0x7FFF := by
    unfold region; intro h
    by_contra hc
    rcases h with h | h <;> (repeat' split at h) <;> first | omega | cases h
  unfold State.busWrite
  split
  · rename_i h; exact .inr (.inl ⟨hmap (.inl h), rfl⟩)
  · rename_i h; exact .inr (.inl ⟨hmap (.inr h), rfl⟩)
  · split
    · exact .inl rfl
    · rcases hst with h | h
      · exact .inl h
      · exact .inr (.inr (.inl h))
  · rcases hst with h | h
    · exact .inl h
    · exact .inr (.inr (.inl h))
  · rcases hst with h | h
    · exact .inl h
    · exact .inr (.inr (.inl h))
  · rcases hst with h | h
    · exact .inl h
    · exact .inr (.inr (.inl h))
  · split
    · exact .inl rfl
    · rcases hst with h | h
      · exact .inl h
      · exact .inr (.inr (.inl h))
  · exact .inl rfl
  · rename_i h; exact .inr (.inr (.inr (.inl ⟨h, rfl⟩)))
  · rcases hst with h | h
    · exact .inl h
    · exact .inr (.inr (.inl h))
  · rename_i h; exact .inr (.inr (.inr (.inr ⟨h, rfl⟩)))

/-! ## The bus does not see the CPU -/

/-- The state with other CPU registers and another cycle count. -/
def State.withCpu (s : State) (c : Cpu) (n : Nat) : State := { s with cpu := c, cycles := n }

theorem State.store_withCpu (s : State) (c : Cpu) (n : Nat) (a : Word) (v : Byte) :
    (s.withCpu c n).storeAt a v = (s.storeAt a v).withCpu c n := by
  unfold State.storeAt
  rw [show (s.withCpu c n).place a = s.place a from rfl]
  cases s.place a <;> rfl

theorem State.oamDma_withCpu (s : State) (c : Cpu) (n : Nat) (v : Byte) :
    (s.withCpu c n).oamDma v = (s.oamDma v).withCpu c n := by
  have key : ∀ (l : List Nat) (u : State),
      l.foldl (State.oamDmaByte v) (u.withCpu c n) = (l.foldl (State.oamDmaByte v) u).withCpu c n := by
    intro l
    induction l with
    | nil => intro u; rfl
    | cons k l ih =>
      intro u
      rw [List.foldl_cons, List.foldl_cons, ← ih]
      congr 1
      unfold State.oamDmaByte
      split <;> rfl
  exact key _ s

theorem State.statEdge_withCpu (b s : State) (c : Cpu) (n : Nat) :
    State.statEdge (b.withCpu c n) (s.withCpu c n) = (State.statEdge b s).withCpu c n := by
  unfold State.statEdge
  rw [show (s.withCpu c n).launch = s.launch from rfl, show (b.withCpu c n).statLine = b.statLine from rfl,
    show (s.withCpu c n).statLine = s.statLine from rfl]
  split <;> rfl

theorem State.switchOnEdge_withCpu (s : State) (c : Cpu) (n : Nat) :
    (s.withCpu c n).switchOnEdge = s.switchOnEdge.withCpu c n := by
  unfold State.switchOnEdge
  rw [show (s.withCpu c n).launch = s.launch from rfl, show (s.withCpu c n).lycSource = s.lycSource from rfl]
  split <;> rfl

theorem State.lycCompare_withCpu (s : State) (c : Cpu) (n : Nat) :
    (s.withCpu c n).lycCompare = s.lycCompare.withCpu c n := by
  unfold State.lycCompare
  rw [show (s.withCpu c n).lcdOn = s.lcdOn from rfl, show (s.withCpu c n).ppu = s.ppu from rfl,
    show (s.withCpu c n).launch = s.launch from rfl]
  split
  · dsimp only; split <;> rfl
  · rfl

theorem State.ioWrite_withCpu (s : State) (c : Cpu) (n : Nat) (r : IoReg) (v : Byte) :
    (s.withCpu c n).ioWrite r v = (s.ioWrite r v).withCpu c n := by
  cases r with
  | p1 =>
    simp only [State.ioWrite, State.p1Write, State.joypadCheck, show (s.withCpu c n).joypad = s.joypad from rfl]
    split <;> rfl
  | div =>
    simp only [State.ioWrite, State.divWrite, State.incTima, show (s.withCpu c n).timer = s.timer from rfl]
    (repeat' split) <;> rfl
  | tac =>
    simp only [State.ioWrite, State.tacWrite, State.incTima, show (s.withCpu c n).timer = s.timer from rfl]
    (repeat' split) <;> rfl
  | lcdc =>
    simp only [State.ioWrite, State.lcdcWrite]
    rw [show (s.withCpu c n).lcdOn = s.lcdOn from rfl]
    split
    · rfl
    · split
      · rw [← State.switchOnEdge_withCpu, ← State.lycCompare_withCpu]; rfl
      · rw [← State.statEdge_withCpu]; rfl
  | stat =>
    simp only [State.ioWrite, State.statWrite]
    rw [← State.statEdge_withCpu]; rfl
  | lyc =>
    simp only [State.ioWrite, State.lycWrite]
    rw [← State.statEdge_withCpu, ← State.lycCompare_withCpu]; rfl
  | dma => exact State.oamDma_withCpu { s with dma := v } c n v
  | sb | sc | tima | tma | iflag | audio | scy | scx | ly | bgp | obp0 | obp1 | wy | wx | unmapped => rfl

/-- A bus write and a change of the CPU or the cycle counter commute. -/
theorem State.busWrite_withCpu (s : State) (c : Cpu) (n : Nat) (a : Word) (v : Byte) :
    (s.withCpu c n).busWrite a v = (s.busWrite a v).withCpu c n := by
  unfold State.busWrite
  rw [show (s.withCpu c n).vramWriteBlocked = s.vramWriteBlocked from rfl,
    show (s.withCpu c n).oamBlocked = s.oamBlocked from rfl]
  have hm : (s.withCpu c n).mapperWrite a v = (s.mapperWrite a v).withCpu c n := by
    unfold State.mapperWrite
    rw [show (s.withCpu c n).launch = s.launch from rfl]
    split <;> rfl
  split
  · exact hm
  · exact hm
  · split
    · rfl
    · exact State.store_withCpu s c n a v
  · exact State.store_withCpu s c n a v
  · exact State.store_withCpu s c n a v
  · exact State.store_withCpu s c n a v
  · split
    · rfl
    · exact State.store_withCpu s c n a v
  · rfl
  · exact State.ioWrite_withCpu s c n _ v
  · exact State.store_withCpu s c n a v
  · rfl

/-- A push, as two bus writes and a new SP (R13). -/
theorem State.push16_eq (s : State) (w : Word) : s.push16 w =
    ((s.busWrite (s.cpu.sp - 1) (hi w)).busWrite (s.cpu.sp - 2) (lo w)).setSp (s.cpu.sp - 2) := by
  have hsp : ∀ (u : State) (x : Word) (a : Word) (v : Byte), (u.setSp x).busWrite a v = (u.busWrite a v).setSp x := by
    intro u x a v
    have h := u.busWrite_withCpu { u.cpu with sp := x } u.cycles a v
    refine Eq.trans h ?_
    unfold State.withCpu State.setSp
    rw [State.busWrite_cpu]
    congr 1
    exact (u.busWrite_cycles a v).symm
  have h2 : s.cpu.sp - 1 - 1 = s.cpu.sp - 2 := by bv_omega
  unfold State.push16
  simp only [hsp, State.setSp_sp, h2]
  rfl

/-! ## The stack and the exception entries -/

@[simp] theorem State.push16_cycles (s : State) (w : Word) : (s.push16 w).cycles = s.cycles := by
  simp [State.push16]
@[simp] theorem State.push16_launch (s : State) (w : Word) : (s.push16 w).launch = s.launch := by
  simp [State.push16]
@[simp] theorem State.push16_buttons (s : State) (w : Word) : (s.push16 w).joypad.buttons = s.joypad.buttons := by
  simp [State.push16]
/-- A push moves SP down by two and changes no other CPU register or latch. -/
@[simp] theorem State.push16_cpu (s : State) (w : Word) : (s.push16 w).cpu = { s.cpu with sp := s.cpu.sp - 2 } := by
  simp only [State.push16, State.busWrite_cpu, State.setSp]
  congr 1
  bv_omega

@[simp] theorem State.afterPop_cycles (s : State) : (s.afterPop).cycles = s.cycles := by
  simp [State.afterPop]
@[simp] theorem State.afterPop_intr (s : State) : (s.afterPop).intr = s.intr := by
  simp [State.afterPop]
@[simp] theorem State.afterPop_timer (s : State) : (s.afterPop).timer = s.timer := by
  simp [State.afterPop]
@[simp] theorem State.afterPop_joypad (s : State) : (s.afterPop).joypad = s.joypad := by
  simp [State.afterPop]
@[simp] theorem State.afterPop_serial (s : State) : (s.afterPop).serial = s.serial := by
  simp [State.afterPop]
@[simp] theorem State.afterPop_ppu (s : State) : (s.afterPop).ppu = s.ppu := by
  simp [State.afterPop]
@[simp] theorem State.afterPop_dma (s : State) : (s.afterPop).dma = s.dma := by
  simp [State.afterPop]
@[simp] theorem State.afterPop_mapper (s : State) : (s.afterPop).mapper = s.mapper := by
  simp [State.afterPop]
@[simp] theorem State.afterPop_mem (s : State) : (s.afterPop).mem = s.mem := by
  simp [State.afterPop]
@[simp] theorem State.afterPop_launch (s : State) : (s.afterPop).launch = s.launch := by
  simp [State.afterPop]
/-- A pop moves SP up by two and changes no other CPU register or latch. -/
@[simp] theorem State.afterPop_cpu (s : State) : s.afterPop.cpu = { s.cpu with sp := s.cpu.sp + 2 } := by
  simp [State.afterPop, State.setSp]

@[simp] theorem State.takeInterrupt_launch (s : State) : s.takeInterrupt.launch = s.launch := by
  simp [State.takeInterrupt]
@[simp] theorem State.takeInterrupt_cycles (s : State) : s.takeInterrupt.cycles = s.cycles + 20 := by
  simp [State.takeInterrupt]
@[simp] theorem State.takeInterrupt_buttons (s : State) : s.takeInterrupt.joypad.buttons = s.joypad.buttons := by
  simp [State.takeInterrupt]
/-- Taking an interrupt changes PC, SP, IME, `ei_pending` and `halt_bug`, and no other CPU register or latch. -/
@[simp] theorem State.takeInterrupt_cpu (s : State) : s.takeInterrupt.cpu =
    { s.cpu with pc := (firstPending s.pending).vector, sp := s.cpu.sp - 2, ime := false, eiPending := false
                 haltBug := false } := by
  simp [State.takeInterrupt, State.setPc, State.setHaltBug, State.setEiPending, State.setIme]

/-! ## I/O registers -/

/-- A bus write to an I/O address is the write of its register (R202, R213). -/
theorem State.busWrite_io (s : State) (a : Word) (v : Byte) (r : IoReg) (ha : region a = .io) (hr : ioReg a = r) :
    s.busWrite a v = s.ioWrite r v := by
  unfold State.busWrite; rw [ha, hr]

/-- A CPU read of an I/O address is the read of its register (R201, R212). -/
theorem State.peek_io (s : State) (a : Word) (r : IoReg) (ha : region a = .io) (hr : ioReg a = r) :
    s.peek a = s.ioRead r := by
  unfold State.peek State.busRead; rw [ha, hr]

end Sys2Proof.Machine
end

