-- ==== Sys2Proof/Laws/Decode.lean ====
section
/-! SUPPORT. What a fetched instruction encodes to: the bytes it was fetched from, no more and no fewer. -/

namespace Sys2Proof

/-- The CB page is in order (30_encoding.md R331). -/
theorem encode_decodeCb (b : Byte) : encode (decodeCb b) = [0xCB, b] := by
  revert b; decide +kernel

/-- A fetched instruction encodes to as many of the fetched bytes as its first byte says (R303, R330). -/
theorem encode_decodeFetched (op b1 b2 : Byte) :
    encode (decodeFetched op b1 b2) = [op, b1, b2].take (instrLength op) := by
  have key : ∀ n, n < 256 → encode (decodeFetched (BitVec.ofNat 8 n) b1 b2) =
      [BitVec.ofNat 8 n, b1, b2].take (instrLength (BitVec.ofNat 8 n)) := by
    intro n hn
    by_cases h : n = 0xCB
    · subst h
      exact encode_decodeCb b1
    · interval_cases n
      all_goals first
        | rfl
        | exact absurd rfl h
        | exact congrArg₂ (fun x y : Byte => [_, x, y]) (Machine.lo_cat b2 b1) (Machine.hi_cat b2 b1)
  have h := key op.toNat op.isLt
  rwa [BitVec.ofNat_toNat, BitVec.setWidth_eq] at h

end Sys2Proof
end

