-- ==== Sys2Proof/Laws/Ppu.lean ====
section
/-! SUPPORT. What the PPU's operations do to its registers and to IF, in values. -/

namespace Sys2Proof.Machine

/-! ## Modes and the compare -/

@[simp] theorem State.setMode_ppu (s : State) (m : PpuMode) : (s.setMode m).ppu = { s.ppu with mode := m } := by
  unfold State.setMode; dsimp only; split <;> rfl

@[simp] theorem State.setMode_lcdOn (s : State) (m : PpuMode) : (s.setMode m).lcdOn = s.lcdOn := by simp [State.lcdOn]

theorem State.setMode_iflag (s : State) (m : PpuMode) : (s.setMode m).intr.iflag =
    if s.launch.params.statIrqModel = .events ∧ modeIrqEnabled s.ppu.statEnables m = true then
      s.intr.iflag ||| 0b00010#5 else s.intr.iflag := by
  unfold State.setMode; dsimp only; split <;> rfl

theorem State.lycCompare_ppu (s : State) (h : s.lcdOn = true) :
    s.lycCompare.ppu = { s.ppu with statCoincidence := decide (s.ppu.ly = s.ppu.lyc) } := by
  unfold State.lycCompare; rw [if_pos h]; dsimp only; split <;> rfl

theorem State.lycCompare_off (s : State) (h : s.lcdOn = false) : s.lycCompare = s := by
  unfold State.lycCompare; simp [h]

theorem State.lycCompare_iflag (s : State) (h : s.lcdOn = true) : s.lycCompare.intr.iflag =
    if s.ppu.ly = s.ppu.lyc ∧ s.ppu.statCoincidence = false ∧ s.ppu.statEnables.getLsbD 3 = true ∧
        s.launch.params.statIrqModel = .events then
      s.intr.iflag ||| 0b00010#5 else s.intr.iflag := by
  unfold State.lycCompare; rw [if_pos h]; dsimp only
  simp only [decide_eq_true_eq]
  split <;> rfl

@[simp] theorem State.lycCompare_lcdOn (s : State) : s.lycCompare.lcdOn = s.lcdOn := by
  cases h : s.lcdOn
  · rw [s.lycCompare_off h, h]
  · simp only [State.lcdOn, s.lycCompare_ppu h]; exact h

/-! ## The LCD switch -/

theorem State.lcdcWrite_off (s : State) (v : Byte) (h : s.lcdOn = true) (hv : v.getLsbD 7 = false) :
    s.lcdcWrite v = State.restartLine { s with ppu := { s.ppu with lcdc := v } } .hblank := by
  unfold State.lcdcWrite; rw [if_pos ⟨h, hv⟩]

theorem State.lcdcWrite_on (s : State) (v : Byte) (h : s.lcdOn = false) (hv : v.getLsbD 7 = true) :
    s.lcdcWrite v =
      (State.restartLine { s with ppu := { s.ppu with lcdc := v } } .oamScan).lycCompare.switchOnEdge := by
  unfold State.lcdcWrite; rw [if_neg (by simp [h]), if_pos ⟨h, hv⟩]

/-- A write that leaves LCDC[7] as it was moves no STAT source: LCDC is all it changes. -/
theorem State.lcdcWrite_same (s : State) (v : Byte) (h : s.lcdOn = v.getLsbD 7) :
    s.lcdcWrite v = { s with ppu := { s.ppu with lcdc := v } } := by
  unfold State.lcdcWrite
  rw [if_neg (by rw [h]; cases v.getLsbD 7 <;> simp), if_neg (by rw [h]; cases v.getLsbD 7 <;> simp)]
  unfold State.statEdge
  rw [if_neg]
  rintro ⟨-, h1, h2⟩
  have e : State.statLine { s with ppu := { s.ppu with lcdc := v } } = s.statLine := by
    simp only [State.statLine, State.lcdOn, State.lycSource] at h ⊢
    rw [h]
  rw [e, h1] at h2
  exact Bool.noConfusion h2

theorem State.switchOnEdge_iflag (s : State) : s.switchOnEdge.intr.iflag =
    if s.launch.params.statIrqModel = .line ∧ s.lycSource = true then s.intr.iflag ||| 0b00010#5 else s.intr.iflag := by
  unfold State.switchOnEdge; split <;> rfl

/-! ## V-blank -/

@[simp] theorem State.enterVblank_ppu (s : State) : s.enterVblank.ppu =
    { s.ppu with mode := .vblank, frameComplete := true, lastFrame := s.ppu.framebuffer, winLine := 0 } := by
  simp [State.enterVblank]

theorem State.enterVblank_iflag (s : State) :
    s.enterVblank.intr.iflag = (s.setMode .vblank).intr.iflag ||| 0b00001#5 := rfl

/-! ## The form of the PPU's state -/

theorem State.ppuPositionOk_iff (s : State) : s.ppuPositionOk = true ↔
    s.ppu.dot < 456 ∧ s.ppu.ly.toNat < 154 ∧
      (s.lcdOn = true → s.ppu.mode = lineMode s.launch.params.mode3T s.ppu.ly.toNat s.ppu.dot) ∧
      (s.lcdOn = false → s.ppu.mode = .hblank ∧ s.ppu.ly = 0 ∧ s.ppu.dot = 0) := by
  cases h : s.lcdOn <;> simp [State.ppuPositionOk, h, and_assoc]

theorem State.ppuOk_iff (s : State) : s.ppuOk = true ↔
    s.ppuPositionOk = true ∧ (s.lcdOn = true → s.ppu.statCoincidence = decide (s.ppu.ly = s.ppu.lyc)) ∧
      (s.ppu.ly.toNat < 144 → s.ppu.winLine ≤ s.ppu.ly.toNat) ∧ (144 ≤ s.ppu.ly.toNat → s.ppu.winLine = 0) ∧
      s.ppu.framebuffer.shaped = true ∧ s.ppu.lastFrame.shaped = true := by
  by_cases hy : s.ppu.ly.toNat < 144
  · cases h : s.lcdOn <;>
      simp [State.ppuOk, State.coincidenceOk, State.winLineOk, State.framesOk, h, hy, and_assoc, Nat.not_le.2 hy]
  · cases h : s.lcdOn <;>
      simp [State.ppuOk, State.coincidenceOk, State.winLineOk, State.framesOk, h, hy, and_assoc, Nat.not_lt.1 hy]

/-- A frame stays in shape when a row of 160 shades is put in. -/
theorem Frame.shaped_set (f : Frame) (y : Nat) (row : List (BitVec 2)) (h : Frame.shaped f = true) (hr : row.length = 160) :
    Frame.shaped (f.set y row) = true := by
  simp only [Frame.shaped, Bool.and_eq_true, beq_iff_eq, List.all_eq_true] at h ⊢
  refine ⟨by simpa using h.1, fun r hx => ?_⟩
  rcases List.mem_or_eq_of_mem_set hx with k | k
  · exact h.2 r k
  · rw [k]; exact hr

@[simp] theorem State.lineShades_length (s : State) (y : Nat) : (s.lineShades y).length = 160 := by simp [State.lineShades]

theorem nextWinLine_le (p : Ppu) (y : Nat) : nextWinLine p y ≤ p.winLine + 1 := by unfold nextWinLine; split <;> omega

/-! ## A tick -/

/-- The mode after a tick that does not end the line (R1101). -/
def State.tickMode (s : State) : PpuMode :=
  if s.ppu.ly.toNat < 144 ∧ s.ppu.dot + 1 = 80 + s.launch.params.mode3T then .hblank
  else if s.ppu.ly.toNat < 144 ∧ s.ppu.dot + 1 = 80 then .pixelTransfer
  else s.ppu.mode

/-- What a tick does before the end of the line is looked at (R1101). -/
def State.tickWithin (s : State) : State :=
  let s1 := { s with ppu := { s.ppu with dot := s.ppu.dot + 1 } }
  let s2 := if s1.ppu.ly.toNat < 144 ∧ s1.ppu.dot = 80 then s1.setMode .pixelTransfer else s1
  if s2.ppu.ly.toNat < 144 ∧ s2.ppu.dot = 80 + s2.launch.params.mode3T then s2.setMode .hblank else s2

theorem State.tickWithin_ppu (s : State) :
    s.tickWithin.ppu = { s.ppu with dot := s.ppu.dot + 1, mode := s.tickMode } := by
  unfold State.tickWithin State.tickMode
  dsimp only
  by_cases h : s.ppu.ly.toNat < 144 ∧ s.ppu.dot + 1 = 80
  · rw [if_pos h]
    by_cases k : s.ppu.ly.toNat < 144 ∧ s.ppu.dot + 1 = 80 + s.launch.params.mode3T
    · rw [if_pos (by simpa using k), if_pos k]; simp
    · rw [if_neg (by simpa using k), if_neg k, if_pos h]; simp
  · rw [if_neg h]
    dsimp only
    by_cases k : s.ppu.ly.toNat < 144 ∧ s.ppu.dot + 1 = 80 + s.launch.params.mode3T
    · rw [if_pos k, if_pos k]; simp
    · rw [if_neg k, if_neg k, if_neg h]

theorem State.tickWithin_launch (s : State) : s.tickWithin.launch = s.launch := by
  unfold State.tickWithin; dsimp only; (repeat' split) <;> simp

theorem State.ppuAdvance_eq (s : State) :
    s.ppuAdvance = if s.ppu.dot + 1 = 456 then s.tickWithin.endLine else s.tickWithin := by
  have h := s.tickWithin_ppu
  unfold State.ppuAdvance
  change (if s.tickWithin.ppu.dot = 456 then s.tickWithin.endLine else s.tickWithin) = _
  rw [h]

@[simp] theorem State.tickWithin_lcdOn (s : State) : s.tickWithin.lcdOn = s.lcdOn := by simp [State.lcdOn, s.tickWithin_ppu]

@[simp] theorem State.nextLy_toNat (ly : Byte) : (nextLy ly).toNat = (ly.toNat + 1) % 154 := by
  simp [nextLy]; omega

/-- The line just ended, and composed when it is visible: the rest is the new line's start. -/
def State.lineDone (s : State) : State :=
  let s1 := { s with ppu := { s.ppu with dot := 0 } }
  let s2 := if s.ppu.ly.toNat < 144 then s1.composeLine s.ppu.ly.toNat else s1
  { s2 with ppu := { s2.ppu with ly := nextLy s.ppu.ly } }

theorem State.lineDone_ppu (s : State) : s.lineDone.ppu = { s.ppu with
    dot := 0
    ly := nextLy s.ppu.ly
    framebuffer := if s.ppu.ly.toNat < 144 then s.ppu.framebuffer.set s.ppu.ly.toNat (s.lineShades s.ppu.ly.toNat)
      else s.ppu.framebuffer
    winLine := if s.ppu.ly.toNat < 144 then nextWinLine s.ppu s.ppu.ly.toNat else s.ppu.winLine } := by
  unfold State.lineDone; dsimp only; split <;> rfl

theorem State.lineDone_launch (s : State) : s.lineDone.launch = s.launch := by
  unfold State.lineDone; dsimp only; split <;> rfl

theorem State.lineDone_intr (s : State) : s.lineDone.intr = s.intr := by
  unfold State.lineDone; dsimp only; split <;> rfl

@[simp] theorem State.lineDone_lcdOn (s : State) : s.lineDone.lcdOn = s.lcdOn := by simp [State.lcdOn, s.lineDone_ppu]

theorem State.endLine_eq (s : State) : s.endLine =
    (if (s.ppu.ly.toNat + 1) % 154 = 144 then s.lineDone.enterVblank
      else if (s.ppu.ly.toNat + 1) % 154 < 144 then s.lineDone.setMode .oamScan
      else s.lineDone).lycCompare := by
  have h : s.lineDone.ppu.ly.toNat = (s.ppu.ly.toNat + 1) % 154 := by rw [s.lineDone_ppu]; simp
  rw [← h]; rfl

end Sys2Proof.Machine
end

