-- ==== Sys2Proof/Laws/DeviceTime.lean ====
section
/-! SUPPORT. Device time neither sees nor changes the CPU and the cycle counter; and what one PPU tick requests. -/

namespace Sys2Proof.Machine

/-! ## Device time and the CPU commute -/

theorem State.timerTick_withCpu (s : State) (c : Cpu) (n : Nat) : (s.withCpu c n).timerTick = s.timerTick.withCpu c n := by
  simp only [State.timerTick, State.incTima, show (s.withCpu c n).timer = s.timer from rfl]
  (repeat' split) <;> rfl

theorem State.setMode_withCpu (s : State) (m : PpuMode) (c : Cpu) (n : Nat) :
    (s.withCpu c n).setMode m = (s.setMode m).withCpu c n := by
  simp only [State.setMode, show (s.withCpu c n).ppu = s.ppu from rfl, show (s.withCpu c n).launch = s.launch from rfl]
  split <;> rfl

theorem State.enterVblank_withCpu (s : State) (c : Cpu) (n : Nat) :
    (s.withCpu c n).enterVblank = s.enterVblank.withCpu c n := by
  unfold State.enterVblank; rw [State.setMode_withCpu]; rfl

theorem State.lineDone_withCpu (s : State) (c : Cpu) (n : Nat) : (s.withCpu c n).lineDone = s.lineDone.withCpu c n := by
  unfold State.lineDone
  rw [show (s.withCpu c n).ppu = s.ppu from rfl]
  split <;> rfl

theorem State.endLine_withCpu (s : State) (c : Cpu) (n : Nat) : (s.withCpu c n).endLine = s.endLine.withCpu c n := by
  rw [State.endLine_eq, State.endLine_eq, State.lineDone_withCpu, show (s.withCpu c n).ppu = s.ppu from rfl,
    State.enterVblank_withCpu, State.setMode_withCpu, ← State.lycCompare_withCpu]
  (repeat' split) <;> rfl

theorem State.tickWithin_withCpu (s : State) (c : Cpu) (n : Nat) :
    (s.withCpu c n).tickWithin = s.tickWithin.withCpu c n := by
  unfold State.tickWithin State.setMode
  rw [show (s.withCpu c n).ppu = s.ppu from rfl, show (s.withCpu c n).launch = s.launch from rfl]
  dsimp only
  (repeat' split) <;> first | rfl | contradiction

theorem State.ppuTick_withCpu (s : State) (c : Cpu) (n : Nat) : (s.withCpu c n).ppuTick = s.ppuTick.withCpu c n := by
  unfold State.ppuTick
  rw [show (s.withCpu c n).lcdOn = s.lcdOn from rfl, State.ppuAdvance_eq, State.ppuAdvance_eq,
    show (s.withCpu c n).ppu = s.ppu from rfl, State.tickWithin_withCpu, State.endLine_withCpu]
  split
  · rw [← State.statEdge_withCpu]; split <;> rfl
  · rfl

/-- Device time and a change of the CPU or the cycle counter commute. -/
theorem State.advanceDevices_withCpu (k : Nat) (s : State) (c : Cpu) (n : Nat) :
    State.advanceDevices k (s.withCpu c n) = (State.advanceDevices k s).withCpu c n := by
  induction k generalizing s with
  | zero => rfl
  | succ k ih =>
    rw [State.advanceDevices, State.advanceDevices, ← ih, State.deviceTick, State.deviceTick, State.timerTick_withCpu,
      State.ppuTick_withCpu]

/-- A step's end at an extra cost is its end at none and then device time for the extra cost. -/
theorem State.finishStep_extra (extra : Nat) (start done : State) :
    State.finishStep extra start done =
      { State.advanceDevices extra (State.finishStep 0 start done) with
        cycles := (State.finishStep 0 start done).cycles + extra } := by
  have h : ∀ (k : Nat) (n : Nat) (s : State),
      State.advanceDevices k { s with cycles := n } = { State.advanceDevices k s with cycles := n } := fun k n s => by
    have e := State.advanceDevices_withCpu k s s.cpu n
    simpa [State.withCpu, State.advanceDevices_cpu] using e
  have t (n : Nat) : done.tick n = { done with cycles := done.cycles + n } := rfl
  unfold State.finishStep
  rw [t, t, h, h, Nat.add_comm extra, State.advanceDevices_add, Nat.zero_add, h]
  simp

/-! ## What a PPU tick requests -/

/-- Requesting LCD STAT under a condition, read at IF's bit 1. -/
theorem stat_bit (x : BitVec 5) (c : Prop) [Decidable c] :
    (if c then x ||| 0b00010#5 else x).getLsbD 1 = true ↔ x.getLsbD 1 = true ∨ c := by
  split
  · exact ⟨fun _ => .inr ‹_›, fun _ => by simp⟩
  · exact ⟨.inl, fun h => h.elim id fun k => absurd k ‹_›⟩

/-- Requesting V-blank leaves IF's bit 1. -/
theorem vblank_bit (x : BitVec 5) : (x ||| 0b00001#5).getLsbD 1 = x.getLsbD 1 := by revert x; decide

/-- Under the events model the STAT line asks for nothing (R1107). -/
theorem State.statEdge_events (b a : State) (h : a.launch.params.statIrqModel = .events) : State.statEdge b a = a := by
  unfold State.statEdge; rw [if_neg]; simp [h]

/-- Under the line model LCD STAT is requested exactly when the line rises (R1107). -/
theorem State.statEdge_line (b a : State) (h : a.launch.params.statIrqModel = .line) :
    (State.statEdge b a).intr.iflag.getLsbD 1 = true ↔
      a.intr.iflag.getLsbD 1 = true ∨ (b.statLine = false ∧ a.statLine = true) := by
  have e : (State.statEdge b a).intr.iflag =
      if b.statLine = false ∧ a.statLine = true then a.intr.iflag ||| 0b00010#5 else a.intr.iflag := by
    unfold State.statEdge; simp only [h, true_and]; split <;> rfl
  rw [e, stat_bit]

@[simp] theorem State.statEdge_statLine (b a : State) : (State.statEdge b a).statLine = a.statLine := by
  unfold State.statEdge; split <;> rfl

/-- Within a line only entering H-blank requests (R1101, R1102). -/
theorem State.tickWithin_iflag (s : State) : s.tickWithin.intr.iflag =
    if s.ppu.ly.toNat < 144 ∧ s.ppu.dot + 1 = 80 + s.launch.params.mode3T ∧ s.launch.params.statIrqModel = .events ∧
        s.ppu.statEnables.getLsbD 0 = true then
      s.intr.iflag ||| 0b00010#5 else s.intr.iflag := by
  have enter (u : State) (hp : ∃ m, u.ppu = { s.ppu with dot := s.ppu.dot + 1, mode := m })
      (hl : u.launch = s.launch) (hi : u.intr.iflag = s.intr.iflag) :
      (if u.ppu.ly.toNat < 144 ∧ u.ppu.dot = 80 + u.launch.params.mode3T then u.setMode .hblank else u).intr.iflag =
        if s.ppu.ly.toNat < 144 ∧ s.ppu.dot + 1 = 80 + s.launch.params.mode3T ∧ s.launch.params.statIrqModel = .events ∧
          s.ppu.statEnables.getLsbD 0 = true then s.intr.iflag ||| 0b00010#5 else s.intr.iflag := by
    obtain ⟨m, hp⟩ := hp
    rw [hp, hl]
    by_cases r : s.ppu.ly.toNat < 144 ∧ s.ppu.dot + 1 = 80 + s.launch.params.mode3T
    · rw [if_pos r, State.setMode_iflag, hl, hp, hi]
      exact if_congr ⟨fun h => ⟨r.1, r.2, h⟩, fun h => h.2.2⟩ rfl rfl
    · rw [if_neg r, if_neg (fun h => r ⟨h.1, h.2.1⟩), hi]
  unfold State.tickWithin
  dsimp only
  by_cases q : s.ppu.ly.toNat < 144 ∧ s.ppu.dot + 1 = 80
  · simp only [if_pos q]
    refine enter _ ⟨.pixelTransfer, by simp⟩ (by simp) ?_
    rw [State.setMode_iflag, if_neg (by simp [modeIrqEnabled])]
  · simp only [if_neg q]
    exact enter { s with ppu := { s.ppu with dot := s.ppu.dot + 1 } } ⟨s.ppu.mode, rfl⟩ rfl rfl

/-- The LCD STAT requests of the start of a line, under the events model (R1101-R1103, R1106). -/
theorem State.endLine_stat (s : State) (h : s.lcdOn = true) : s.endLine.intr.iflag.getLsbD 1 = true ↔
    s.intr.iflag.getLsbD 1 = true ∨ s.launch.params.statIrqModel = .events ∧
      (((s.ppu.ly.toNat + 1) % 154 = 144 ∧ s.ppu.statEnables.getLsbD 1 = true) ∨
        ((s.ppu.ly.toNat + 1) % 154 < 144 ∧ s.ppu.statEnables.getLsbD 2 = true) ∨
        ((s.ppu.ly.toNat + 1) % 154 = s.ppu.lyc.toNat ∧ s.ppu.statCoincidence = false ∧
          s.ppu.statEnables.getLsbD 3 = true)) := by
  have hly : nextLy s.ppu.ly = s.ppu.lyc ↔ (s.ppu.ly.toNat + 1) % 154 = s.ppu.lyc.toNat := by
    rw [← nextLy_toNat]; exact ⟨fun k => by rw [k], BitVec.eq_of_toNat_eq⟩
  -- the compare that ends it, after whatever set the mode
  have compare (u : State) (ho : u.lcdOn = true) (hl : u.launch = s.launch)
      (hy : u.ppu.ly = nextLy s.ppu.ly) (hc : u.ppu.lyc = s.ppu.lyc) (hd : u.ppu.statCoincidence = s.ppu.statCoincidence)
      (he : u.ppu.statEnables = s.ppu.statEnables) : u.lycCompare.intr.iflag.getLsbD 1 = true ↔
        u.intr.iflag.getLsbD 1 = true ∨ s.launch.params.statIrqModel = .events ∧
          (s.ppu.ly.toNat + 1) % 154 = s.ppu.lyc.toNat ∧ s.ppu.statCoincidence = false ∧
          s.ppu.statEnables.getLsbD 3 = true := by
    rw [u.lycCompare_iflag ho, stat_bit, hl, hy, hc, hd, he, hly]
    exact or_congr_right ⟨fun k => ⟨k.2.2.2, k.1, k.2.1, k.2.2.1⟩, fun k => ⟨k.2.1, k.2.2.1, k.2.2.2, k.1⟩⟩
  have ho : s.lineDone.lcdOn = true := by rw [s.lineDone_lcdOn, h]
  have mode (m : PpuMode) : (s.lineDone.setMode m).intr.iflag.getLsbD 1 = true ↔ s.intr.iflag.getLsbD 1 = true ∨
      s.launch.params.statIrqModel = .events ∧ modeIrqEnabled s.ppu.statEnables m = true := by
    rw [State.setMode_iflag, stat_bit, s.lineDone_launch, s.lineDone_intr, s.lineDone_ppu]
  rw [s.endLine_eq]
  by_cases q : (s.ppu.ly.toNat + 1) % 154 = 144
  · have k := compare s.lineDone.enterVblank (by simpa [State.lcdOn] using ho) (by simp [s.lineDone_launch])
      (by simp [s.lineDone_ppu]) (by simp [s.lineDone_ppu]) (by simp [s.lineDone_ppu]) (by simp [s.lineDone_ppu])
    rw [if_pos q, k, State.enterVblank_iflag, vblank_bit, mode .vblank]
    simp only [modeIrqEnabled, q, Nat.lt_irrefl, true_and, false_and, false_or, or_assoc, ← and_or_left]
  · rw [if_neg q]
    by_cases r : (s.ppu.ly.toNat + 1) % 154 < 144
    · have k := compare (s.lineDone.setMode .oamScan) (by simpa using ho) (by simp [s.lineDone_launch])
        (by simp [s.lineDone_ppu]) (by simp [s.lineDone_ppu]) (by simp [s.lineDone_ppu]) (by simp [s.lineDone_ppu])
      rw [if_pos r, k, mode .oamScan]
      simp only [modeIrqEnabled, q, r, true_and, false_and, false_or, or_assoc, ← and_or_left]
    · have k := compare s.lineDone ho s.lineDone_launch
        (by simp [s.lineDone_ppu]) (by simp [s.lineDone_ppu]) (by simp [s.lineDone_ppu]) (by simp [s.lineDone_ppu])
      rw [if_neg r, k, s.lineDone_intr]
      simp only [q, r, false_and, false_or]

end Sys2Proof.Machine
end

