-- ==== Sys2Proof/Laws/Flags.lean ====
section
/-! SUPPORT. The arithmetic of each result and flag computation, as equations on numbers. -/

namespace Sys2Proof.Machine

theorem byte_eq_zero_iff (v : Byte) : v = 0 ↔ v.toNat = 0 := by
  constructor
  · intro h; rw [h]; rfl
  · intro h; exact BitVec.eq_of_toNat_eq h

theorem word_eq_zero_iff (v : Word) : v = 0 ↔ v.toNat = 0 := by
  constructor
  · intro h; rw [h]; rfl
  · intro h; exact BitVec.eq_of_toNat_eq h

/-! ## 8-bit addition and subtraction -/

theorem add8_value (a b : Byte) (c : Bool) : (add8 a b c).value.toNat = (a.toNat + b.toNat + c.toNat) % 256 := by
  simp [add8]

theorem add8_flags (a b : Byte) (c : Bool) : (add8 a b c).flags =
    { z := decide ((a.toNat + b.toNat + c.toNat) % 256 = 0), n := false
      h := decide (a.toNat % 16 + b.toNat % 16 + c.toNat > 15), c := decide (a.toNat + b.toNat + c.toNat > 255) } := by
  simp only [add8, byte_eq_zero_iff, BitVec.toNat_ofNat]

theorem sub8_value (a b : Byte) (c : Bool) :
    ((sub8 a b c).value.toNat : Int) = ((a.toNat : Int) - b.toNat - c.toNat) % 256 := by
  simp only [sub8, BitVec.toNat_ofInt]
  omega

theorem sub8_flags (a b : Byte) (c : Bool) : (sub8 a b c).flags =
    { z := decide (((a.toNat : Int) - b.toNat - c.toNat) % 256 = 0), n := true
      h := decide ((a.toNat : Int) % 16 - (b.toNat : Int) % 16 - c.toNat < 0)
      c := decide ((a.toNat : Int) - b.toNat - c.toNat < 0) } := by
  have hv := sub8_value a b c
  have hz : ((sub8 a b c).value = 0) ↔ ((a.toNat : Int) - b.toNat - c.toNat) % 256 = 0 := by
    rw [byte_eq_zero_iff]; omega
  simp only [sub8] at hz ⊢
  simp only [hz]
  rfl

/-! ## Increment and decrement -/

theorem low_nibble (v : Byte) : (v &&& 0x0F).toNat = v.toNat % 16 := by
  revert v; decide

theorem low_nibble_eq (v : Byte) (k : Nat) (hk : k < 256) : v &&& 0x0F = BitVec.ofNat 8 k ↔ v.toNat % 16 = k := by
  rw [← low_nibble]
  constructor
  · intro h; rw [h]; simpa using hk
  · intro h; exact BitVec.eq_of_toNat_eq (by simpa [Nat.mod_eq_of_lt hk] using h)

theorem inc8_value (v : Byte) (f : Flags) : (inc8 v f).value = BitVec.ofNat 8 (v.toNat + 1) := by
  simp only [inc8]
  apply BitVec.eq_of_toNat_eq
  simp

theorem inc8_flags (v : Byte) (f : Flags) : (inc8 v f).flags =
    { z := decide (v.toNat = 255), n := false, h := decide (v.toNat % 16 = 15), c := f.c } := by
  have hz : v + 1 = 0 ↔ v.toNat = 255 := by revert v; decide
  have hh : v &&& 0x0F = 0x0F ↔ v.toNat % 16 = 15 := by revert v; decide
  simp only [inc8, hz, hh]

theorem dec8_value (v : Byte) (f : Flags) : (dec8 v f).value = BitVec.ofNat 8 (v.toNat + 255) := by
  have : v - 1 = BitVec.ofNat 8 (v.toNat + 255) := by revert v; decide
  simpa only [dec8] using this

theorem dec8_flags (v : Byte) (f : Flags) : (dec8 v f).flags =
    { z := decide (v.toNat = 1), n := true, h := decide (v.toNat % 16 = 0), c := f.c } := by
  have hz : v - 1 = 0 ↔ v.toNat = 1 := by revert v; decide
  have hh : v &&& 0x0F = 0x00 ↔ v.toNat % 16 = 0 := by revert v; decide
  simp only [dec8, hz, hh]

/-! ## 16-bit arithmetic -/

theorem add16_value (a b : Word) (f : Flags) : (add16 a b f).value.toNat = (a.toNat + b.toNat) % 65536 := by
  simp [add16]

theorem sext16_toNat (e : Byte) : ((sext16 e).toNat : Int) = e.toInt % 65536 := by
  revert e; decide

/-- Adding a sign-extended displacement is adding the signed number modulo 65536. -/
theorem add_sext16 (w : Word) (e : Byte) : ((w + sext16 e).toNat : Int) = ((w.toNat : Int) + e.toInt) % 65536 := by
  have := sext16_toNat e
  rw [BitVec.toNat_add]
  omega

/-! ## Single bits -/

theorem bit_eq (v : Byte) (b : Oct) : v.getLsbD b.toNat = decide (v.toNat / 2 ^ b.toNat % 2 = 1) := by
  cases b <;> (revert v; decide)

end Sys2Proof.Machine
end

