-- ==== Sys2Proof/Laws/Frames.lean ====
section
/-! SUPPORT. The frame vocabulary of Safety, once for each shared operation: what a read, a write and a push leave alone. -/

namespace Sys2Proof.Machine

/-! ## What a read depends on -/

/-- The place an address names depends on the mapper registers and the launch only. -/
theorem State.place_congr (s t : State) (a : Word) (hm : t.mapper = s.mapper) (hl : t.launch = s.launch) :
    t.place a = s.place a := by
  unfold State.place State.extRamOn State.extRamIndex State.ramBank
  rw [hm, hl]

/-- With the devices as they were, a read outside the audio range depends on the byte of its place only. -/
theorem State.peek_congr (s t : State) (b : Word) (h : s.keepsDevices t) (ha : isAudio b = false)
    (hm : ∀ p, s.place b = some p → Memory.read t.mem p = Memory.read s.mem p) : t.peek b = s.peek b := by
  have hp := State.place_congr s t b h.2.2.2.2.2.2.1 h.2.2.2.2.2.2.2
  have hst : t.stored b = s.stored b := by
    unfold State.stored
    rw [hp]
    cases hb : s.place b with
    | none => rfl
    | some p => exact hm p hb
  obtain ⟨h1, h2, h3, h4, h5, h6, h7, h8⟩ := h
  unfold State.peek State.busRead State.romRead State.vramReadBlocked State.oamBlocked State.lcdOn
    State.bank0 State.bankX
  rw [hst, h1, h5, h7, h8]
  split <;> try rfl
  rename_i hr
  cases hi : ioReg b <;>
    first
    | (simp [isAudio, hr, hi] at ha; done)
    | (simp only [State.ioRead, State.modeReported, State.lcdOn, h1, h2, h3, h4, h5, h6]; done)
    | (simp only [State.ioRead, State.modeReported, State.lcdOn, h5]; rfl)

/-- With the devices and every place as they were, memory is kept. -/
theorem State.keepsMemory_of (s t : State) (h : s.keepsDevices t) (hm : t.mem = s.mem) : s.keepsMemory t :=
  ⟨fun p => by rw [hm], fun a ha => State.peek_congr s t a h ha fun p _ => by rw [hm]⟩

theorem State.keepsDevices_refl (s : State) : s.keepsDevices s := ⟨rfl, rfl, rfl, rfl, rfl, rfl, rfl, rfl⟩

/-- What only the CPU, the cycle counter and the draws differ in keeps devices and memory. -/
theorem State.keeps_of_cpu (s : State) (c : Cpu) (n d : Nat) :
    s.keepsDevices { s with cpu := c, cycles := n, draws := d } ∧
      s.keepsMemory { s with cpu := c, cycles := n, draws := d } :=
  ⟨State.keepsDevices_refl s, State.keepsMemory_of s _ (State.keepsDevices_refl s) rfl⟩

/-! ## Where a write reaches -/

theorem isAudio_dma : isAudio 0xFF46#16 = false := by decide

theorem State.oamDma_read_other (s : State) (v : Byte) (p : Nat) (hp : ¬ (0xFE00 ≤ p ∧ p ≤ 0xFE9F)) :
    Memory.read (s.oamDma v).mem p = Memory.read s.mem p := by
  have key : ∀ (l : List Nat), (∀ k ∈ l, k < 160) → ∀ s : State,
      Memory.read (l.foldl (State.oamDmaByte v) s).mem p = Memory.read s.mem p := by
    intro l
    induction l with
    | nil => intro _ s; rfl
    | cons k l ih =>
      intro hl s
      rw [List.foldl_cons, ih fun x hx => hl x (List.mem_cons_of_mem _ hx)]
      have hk := hl k (List.mem_cons_self ..)
      unfold State.oamDmaByte
      split
      · exact Memory.read_write_other _ _ _ _ (by omega)
      · exact Memory.read_write_other _ _ _ _ (by omega)
  exact key _ (fun k hk => List.mem_range.mp hk) s

/-- An I/O write stores only through OAM DMA. -/
theorem State.ioWrite_mem (s : State) (r : IoReg) (v : Byte) (h : r ≠ .dma) : (s.ioWrite r v).mem = s.mem := by
  cases r <;> first | exact absurd rfl h | simp [State.ioWrite]

theorem IoReg.else_of_ite {c : Prop} [Decidable c] {x y z : IoReg} (h : (if c then x else y) = z) (hx : x ≠ z) :
    y = z := by
  by_cases hc : c
  · rw [if_pos hc] at h; exact absurd h hx
  · rwa [if_neg hc] at h

theorem ioReg_dma (a : Word) (h : ioReg a = .dma) : a = 0xFF46#16 := by
  unfold ioReg at h
  iterate 15 replace h := IoReg.else_of_ite h (by decide)
  by_contra hne
  rw [if_neg hne] at h
  iterate 5 replace h := IoReg.else_of_ite h (by decide)
  cases h

/-- A bus write leaves every place alone that it does not reach. -/
theorem State.busWrite_read_other (s : State) (a : Word) (v : Byte) (p : Nat) (hp : ¬ s.writeReaches a p) :
    Memory.read (s.busWrite a v).mem p = Memory.read s.mem p := by
  rcases s.busWrite_cases a v with h | ⟨_, h⟩ | ⟨q, hq, h⟩ | ⟨_, h⟩ | ⟨_, h⟩
  · rw [h]
  · rw [h, State.mapperWrite_mem]
  · rw [h]
    exact Memory.read_write_other _ _ _ _ fun e => hp (.inl (e ▸ hq))
  · rw [h]
    by_cases hd : ioReg a = .dma
    · have ha := ioReg_dma a hd
      rw [hd]
      exact State.oamDma_read_other _ _ _ fun e => hp (.inr ⟨ha, e⟩)
    · rw [State.ioWrite_mem _ _ _ hd]
  · rw [h]

theorem isPlain_region (a : Word) (h : isPlain a = true) :
    region a ≠ .rom0 ∧ region a ≠ .romX ∧ region a ≠ .io ∧ region a ≠ .ie := by
  unfold isPlain at h
  cases hr : region a <;> simp [hr] at h ⊢

theorem region_of_le (a : Word) (h : a.toNat ≤ 0x7FFF) : region a = .rom0 ∨ region a = .romX := by
  unfold region
  by_cases h1 : a.toNat ≤ 0x3FFF
  · simp [h1]
  · simp [h1, h]

/-- A write to a plain address is a store in its place, or nothing. -/
theorem State.busWrite_plain (s : State) (a : Word) (v : Byte) (h : isPlain a = true) :
    s.busWrite a v = s ∨ ∃ p, s.place a = some p ∧ s.busWrite a v = s.store p v := by
  obtain ⟨h0, hX, hio, hie⟩ := isPlain_region a h
  rcases s.busWrite_cases a v with e | ⟨hl, _⟩ | e | ⟨hr, _⟩ | ⟨hr, _⟩
  · exact .inl e
  · exact absurd (region_of_le a hl) (by simp [h0, hX])
  · exact .inr e
  · exact absurd hr hio
  · exact absurd hr hie

/-- A write to a plain address keeps every device. -/
theorem State.busWrite_keepsDevices (s : State) (a : Word) (v : Byte) (h : isPlain a = true) :
    s.keepsDevices (s.busWrite a v) := by
  rcases s.busWrite_plain a v h with e | ⟨p, _, e⟩ <;> rw [e] <;> exact ⟨rfl, rfl, rfl, rfl, rfl, rfl, rfl, rfl⟩

/-- A bus write is a write at its address only. -/
theorem State.busWrite_writesOnlyAt (s : State) (a : Word) (v : Byte) : s.writesOnlyAt a (s.busWrite a v) := by
  refine ⟨fun p hp => s.busWrite_read_other a v p hp, by simp, by simp, fun h => ?_⟩
  refine ⟨s.busWrite_keepsDevices a v h, fun b hb hab => ?_⟩
  refine State.peek_congr s _ b (s.busWrite_keepsDevices a v h) hb fun q hq => ?_
  refine s.busWrite_read_other a v q fun hr => ?_
  rcases hr with hr | ⟨rfl, _⟩
  · exact hab q hr hq
  · exact absurd h (by decide)

/-- What differs from `t` in the CPU, the cycle counter and the draws only writes where `t` does. -/
theorem State.writesOnlyAt_of (s t u : State) (a : Word) (h : s.writesOnlyAt a t) (hd : t.keepsDevices u)
    (hm : u.mem = t.mem) : s.writesOnlyAt a u := by
  obtain ⟨h1, h2, h3, h4⟩ := h
  refine ⟨fun p hp => by rw [hm]; exact h1 p hp, by rw [hd.2.2.2.2.2.2.2, h2], by rw [hd.2.2.1, h3], fun hp => ?_⟩
  obtain ⟨k, hb⟩ := h4 hp
  refine ⟨?_, fun b hb' hab => ?_⟩
  · obtain ⟨d1, d2, d3, d4, d5, d6, d7, d8⟩ := hd
    obtain ⟨k1, k2, k3, k4, k5, k6, k7, k8⟩ := k
    exact ⟨d1.trans k1, d2.trans k2, d3.trans k3, d4.trans k4, d5.trans k5, d6.trans k6, d7.trans k7, d8.trans k8⟩
  · rw [(State.keepsMemory_of t u hd hm).2 b hb', hb b hb' hab]

/-- The place an address names is the same after a write to an address next to it. -/
theorem State.busWrite_place (s : State) (a b : Word) (v : Byte) (h : b = a + 1 ∨ b = a - 1) :
    (s.busWrite a v).place b = s.place b := by
  by_cases hr : a.toNat ≤ 0x7FFF
  · have hb : region b ≠ .extRam := by
      unfold region
      repeat' split
      all_goals first | (intro hc; cases hc; done) | skip
      rcases h with rfl | rfl <;> bv_omega
    unfold State.place
    cases hrb : region b <;> first | rfl | exact absurd hrb hb
  · refine State.place_congr s _ b ?_ (by simp)
    rcases s.busWrite_cases a v with e | ⟨hl, _⟩ | ⟨q, _, e⟩ | ⟨_, e⟩ | ⟨_, e⟩
    · rw [e]
    · exact absurd hl hr
    · rw [e]; rfl
    · rw [e]; simp
    · rw [e]

/-- Two bus writes to neighbouring addresses write at those addresses only. -/
theorem State.busWrite_writesOnlyAtTwo (s : State) (a b : Word) (v w : Byte) (h : b = a + 1 ∨ b = a - 1) :
    s.writesOnlyAtTwo a b ((s.busWrite a v).busWrite b w) := by
  have hpl := s.busWrite_place a b v h
  refine ⟨fun p ha hb => ?_, by simp, by simp, fun pa pb => ⟨?_, fun x hx hxa hxb => ?_⟩⟩
  · rw [State.busWrite_read_other, s.busWrite_read_other a v p ha]
    simpa [State.writeReaches, hpl] using hb
  · obtain ⟨k1, k2, k3, k4, k5, k6, k7, k8⟩ := s.busWrite_keepsDevices a v pa
    obtain ⟨d1, d2, d3, d4, d5, d6, d7, d8⟩ := (s.busWrite a v).busWrite_keepsDevices b w pb
    exact ⟨d1.trans k1, d2.trans k2, d3.trans k3, d4.trans k4, d5.trans k5, d6.trans k6, d7.trans k7, d8.trans k8⟩
  · have hk := s.busWrite_keepsDevices a v pa
    have e1 := (s.busWrite_writesOnlyAt a v).2.2.2 pa |>.2 x hx hxa
    have hx' : (s.busWrite a v).place x = s.place x :=
      State.place_congr s _ x hk.2.2.2.2.2.2.1 hk.2.2.2.2.2.2.2
    have e2 := ((s.busWrite a v).busWrite_writesOnlyAt b w).2.2.2 pb |>.2 x hx
      (by intro p hp; rw [hx']; rw [hpl] at hp; exact hxb p hp)
    rw [e2, e1]

/-- As `writesOnlyAt_of`, for two addresses. -/
theorem State.writesOnlyAtTwo_of (s t u : State) (a b : Word) (h : s.writesOnlyAtTwo a b t) (hd : t.keepsDevices u)
    (hm : u.mem = t.mem) : s.writesOnlyAtTwo a b u := by
  obtain ⟨h1, h2, h3, h4⟩ := h
  refine ⟨fun p ha hb => by rw [hm]; exact h1 p ha hb, by rw [hd.2.2.2.2.2.2.2, h2], by rw [hd.2.2.1, h3], fun pa pb => ?_⟩
  obtain ⟨k, hx⟩ := h4 pa pb
  refine ⟨?_, fun x hx' ha hb => ?_⟩
  · obtain ⟨d1, d2, d3, d4, d5, d6, d7, d8⟩ := hd
    obtain ⟨k1, k2, k3, k4, k5, k6, k7, k8⟩ := k
    exact ⟨d1.trans k1, d2.trans k2, d3.trans k3, d4.trans k4, d5.trans k5, d6.trans k6, d7.trans k7, d8.trans k8⟩
  · rw [(State.keepsMemory_of t u hd hm).2 x hx', hx x hx' ha hb]

end Sys2Proof.Machine
end

