-- ==== Sys2Proof/Laws/Operands.lean ====
section
/-! SUPPORT. One lemma for each shared operation of Operands: what it answers and everything it leaves alone. -/

namespace Sys2Proof.Machine

/-- A state that differs in the CPU, the cycle counter and the draws only. -/
theorem State.keeps_of_eq (s t : State) (c : Cpu) (n d : Nat) (h : t = { s with cpu := c, cycles := n, draws := d }) :
    s.keepsDevices t ∧ s.keepsMemory t := by
  subst h; exact State.keeps_of_cpu s c n d

theorem State.writesOnlyAt_with (s t : State) (a : Word) (h : s.writesOnlyAt a t) (c : Cpu) (n d : Nat) :
    s.writesOnlyAt a { t with cpu := c, cycles := n, draws := d } :=
  State.writesOnlyAt_of s t _ a h (State.keepsDevices_refl t) rfl

theorem State.writesOnlyAtTwo_with (s t : State) (a b : Word) (h : s.writesOnlyAtTwo a b t) (c : Cpu) (n d : Nat) :
    s.writesOnlyAtTwo a b { t with cpu := c, cycles := n, draws := d } :=
  State.writesOnlyAtTwo_of s t _ a b h (State.keepsDevices_refl t) rfl

/-- The write of a read-modify-write, seen from before the read. -/
theorem State.afterRead_writesOnlyAt (s : State) (a : Word) (v : Byte) :
    s.writesOnlyAt a ((s.afterRead a).busWrite a v) := by
  by_cases h : isAudio a = true
  · have hw : (s.afterRead a).busWrite a v = s.afterRead a := by
      simp only [isAudio, Bool.and_eq_true, beq_iff_eq] at h
      unfold State.busWrite
      rw [h.1, h.2]
      rfl
    rw [hw]
    obtain ⟨d, hd⟩ := s.afterRead_eq a
    rw [hd]
    have hp : isPlain a = false := by
      simp only [isAudio, Bool.and_eq_true, beq_iff_eq] at h
      simp [isPlain, h.1]
    exact ⟨fun _ _ => rfl, rfl, rfl, fun e => by simp [hp] at e⟩
  · rw [s.afterRead_of_not_audio a (by simpa using h)]
    exact s.busWrite_writesOnlyAt a v

/-! ## Loads and stores -/

/-- A register write keeps every other register, the flags and the rest. -/
theorem State.setR_keepsCpu (s : State) (r : R8) (v : Byte) (k : Nat) :
    s.keepsCpu { regs := [r] } ((s.setR r v).tick k) := by
  refine ⟨fun q hq => ?_, by simp, by simp, by simp, by simp, by simp, by simp, by simp, by simp, by simp⟩
  rw [State.getR_tick, State.getR_setR_other _ _ _ _ (by simpa using hq)]

theorem ldRegReg_next (r r' : R8) (s : State) : ∃ t, ldRegReg r r' s = .next t ∧ t.getR r = s.getR r' ∧
    t.cycles = s.cycles + 4 ∧ s.keepsCpu { regs := [r] } t ∧ s.keepsDevices t ∧ s.keepsMemory t := by
  refine ⟨_, rfl, by simp, by simp, s.setR_keepsCpu r _ 4, ?_⟩
  cases r <;> exact State.keeps_of_eq _ _ _ _ _ rfl

theorem ldRegImm_next (r : R8) (n : Byte) (s : State) : ∃ t, ldRegImm r n s = .next t ∧ t.getR r = n ∧
    t.cycles = s.cycles + 8 ∧ s.keepsCpu { regs := [r] } t ∧ s.keepsDevices t ∧ s.keepsMemory t := by
  refine ⟨_, rfl, by simp, by simp, s.setR_keepsCpu r _ 8, ?_⟩
  cases r <;> exact State.keeps_of_eq _ _ _ _ _ rfl

theorem ldRegMem_next (r : R8) (a : Word) (k : Nat) (s : State) : ∃ t, ldRegMem r a k s = .next t ∧
    t.getR r = s.peek a ∧ t.cycles = s.cycles + k ∧ s.keepsCpu { regs := [r] } t ∧ s.keepsDevices t ∧
    s.keepsMemory t := by
  obtain ⟨d, hd⟩ := s.afterRead_eq a
  refine ⟨_, rfl, by simp, by simp, ?_, ?_⟩
  · rw [hd]; exact State.setR_keepsCpu { s with draws := d } r _ k
  · rw [hd]; cases r <;> exact State.keeps_of_eq _ _ _ _ _ rfl

theorem ldMemVal_next (a : Word) (v : Byte) (k : Nat) (s : State) : ∃ t, ldMemVal a v k s = .next t ∧
    t = (s.busWrite a v).tick k ∧ t.cpu = s.cpu ∧ s.writesOnlyAt a t :=
  ⟨_, rfl, rfl, by simp, State.writesOnlyAt_with s _ a (s.busWrite_writesOnlyAt a v) _ _ _⟩

theorem ldMemSp_next (nn : Word) (s : State) : ∃ t, ldMemSp nn s = .next t ∧
    t = ((s.busWrite nn (lo s.cpu.sp)).busWrite (nn + 1) (hi s.cpu.sp)).tick 20 ∧ t.cpu = s.cpu ∧
    s.writesOnlyAtTwo nn (nn + 1) t :=
  ⟨_, rfl, rfl, by simp,
    State.writesOnlyAtTwo_with s _ _ _ (s.busWrite_writesOnlyAtTwo nn (nn + 1) _ _ (.inl rfl)) _ _ _⟩

theorem ldAHlStep_next (w : Word) (s : State) : ∃ t, ldAHlStep w s = .next t ∧ t.cpu.a = s.peek s.hl ∧
    cat t.cpu.h t.cpu.l = s.hl + w ∧ t.cycles = s.cycles + 8 ∧ s.keepsCpu { regs := [.a, .h, .l] } t ∧
    s.keepsDevices t ∧ s.keepsMemory t := by
  obtain ⟨d, hd⟩ := s.afterRead_eq s.hl
  refine ⟨_, rfl, by simp, by simp, by simp, ?_, ?_⟩
  · refine ⟨fun q hq => ?_, by simp, by simp, by simp, by simp, by simp, by simp, by simp, by simp, by simp⟩
    cases q <;> simp [State.getR] at hq ⊢
  · rw [hd]; exact State.keeps_of_eq _ _ _ _ _ rfl

theorem ldHlStepA_next (w : Word) (s : State) : ∃ t, ldHlStepA w s = .next t ∧
    t = ((s.busWrite s.hl s.cpu.a).setHl (s.hl + w)).tick 8 ∧ s.keepsCpu { regs := [.h, .l] } t ∧
    s.writesOnlyAt s.hl t := by
  refine ⟨_, rfl, rfl, ?_, State.writesOnlyAt_with s _ _ (s.busWrite_writesOnlyAt _ _) _ _ _⟩
  refine ⟨fun q hq => ?_, by simp, by simp, by simp, by simp, by simp, by simp, by simp, by simp, by simp⟩
  cases q <;> simp [State.getR] at hq ⊢

/-- A pair write keeps what is outside the pair. -/
theorem State.setRp_keepsCpu (s : State) (r : Rp) (w : Word) (k : Nat) : s.keepsCpu
    (match r with | .bc => { regs := [.b, .c] } | .de => { regs := [.d, .e] } | .hl => { regs := [.h, .l] } | .sp => { sp := true })
    ((s.setRp r w).tick k) := by
  cases r <;>
    (refine ⟨fun q hq => ?_, by simp, by simp [State.setRp], by simp, by simp, by simp, by simp, by simp, by simp, by simp⟩
     cases q <;> simp [State.getR, State.setRp] at hq ⊢)

theorem State.setRp_keeps (s : State) (r : Rp) (w : Word) (k : Nat) :
    s.keepsDevices ((s.setRp r w).tick k) ∧ s.keepsMemory ((s.setRp r w).tick k) := by
  cases r <;> exact State.keeps_of_eq _ _ _ _ _ rfl

/-! ## The stack -/

/-- A push writes at SP - 1 and SP - 2 only, and moves only SP. -/
theorem State.push16_writesOnlyAtTwo (s : State) (w : Word) :
    s.writesOnlyAtTwo (s.cpu.sp - 1) (s.cpu.sp - 2) (s.push16 w) := by
  rw [State.push16_eq]
  exact State.writesOnlyAtTwo_with s _ _ _
    (s.busWrite_writesOnlyAtTwo _ _ _ _ (.inr (by bv_omega))) _ _ _

theorem pushPair_next (r : Rp2) (s : State) : ∃ t, pushPair r s = .next t ∧
    t = (((s.busWrite (s.cpu.sp - 1) (hi (s.getRp2 r))).busWrite (s.cpu.sp - 2) (lo (s.getRp2 r))).setSp
      (s.cpu.sp - 2)).tick 16 ∧ s.keepsCpu { sp := true } t ∧ s.writesOnlyAtTwo (s.cpu.sp - 1) (s.cpu.sp - 2) t := by
  refine ⟨_, rfl, by rw [State.push16_eq], ?_, ?_⟩
  · refine ⟨fun q _ => ?_, by simp, by simp, by simp, by simp, by simp, by simp, by simp, by simp, by simp⟩
    cases q <;> simp [State.getR]
  · exact State.writesOnlyAtTwo_with s _ _ _ (s.push16_writesOnlyAtTwo _) _ _ _

/-- A pop keeps every device and every byte. -/
theorem State.afterPop_eq (s : State) : ∃ d, s.afterPop = { s with cpu := { s.cpu with sp := s.cpu.sp + 2 }, draws := d } := by
  unfold State.afterPop
  obtain ⟨d, hd⟩ := s.afterRead_eq s.cpu.sp
  obtain ⟨e, he⟩ := State.afterRead_eq { s with draws := d } (s.cpu.sp + 1)
  rw [hd, he]
  exact ⟨e, rfl⟩

theorem State.hi_popValue (s : State) : hi s.popValue = (s.afterRead s.cpu.sp).peek (s.cpu.sp + 1) := hi_cat _ _

theorem State.lo_popValue (s : State) : lo s.popValue = s.peek s.cpu.sp := lo_cat _ _

/-! ## The ALU and the bits -/

theorem Src.after_eq (o : Src) (s : State) : ∃ d, o.after s = { s with draws := d } := by
  cases o
  · exact ⟨s.draws, rfl⟩
  · exact s.afterRead_eq s.hl
  · exact ⟨s.draws, rfl⟩

/-- The ALU: A takes the result, unless the operation is CP; the flags are the computed ones; all else stays. -/
theorem aluOp_next (op : Alu) (o : Src) (s : State) : ∃ t, aluOp op o s = .next t ∧
    t.cpu.a = (if op = .cp then s.cpu.a else (aluCompute op s.cpu.a (o.value s) s.cpu.f).value) ∧
    t.cpu.f = (aluCompute op s.cpu.a (o.value s) s.cpu.f).flags ∧ t.cycles = s.cycles + o.cost ∧
    s.keepsCpu { regs := [.a], flags := true } t ∧ s.keepsDevices t ∧ s.keepsMemory t := by
  obtain ⟨d, hd⟩ := o.after_eq s
  refine ⟨_, rfl, ?_, by simp, ?_, ?_, ?_⟩
  · rw [hd]; split <;> simp
  · rw [hd]; split <;> simp
  · rw [hd]
    split
    · refine ⟨fun q hq => ?_, by simp, by simp, by simp, by simp, by simp, by simp, by simp, by simp, by simp⟩
      simp [State.getR]
    · refine ⟨fun q hq => ?_, by simp, by simp, by simp, by simp, by simp, by simp, by simp, by simp, by simp⟩
      cases q <;> simp [State.getR] at hq ⊢
  · rw [hd]; split <;> exact State.keeps_of_eq _ _ _ _ _ rfl

theorem modifyReg_next (f : Byte → Flags → Res8) (r : R8) (k : Nat) (s : State) : ∃ t, modifyReg f r k s = .next t ∧
    t.getR r = (f (s.getR r) s.cpu.f).value ∧ t.cpu.f = (f (s.getR r) s.cpu.f).flags ∧ t.cycles = s.cycles + k ∧
    s.keepsCpu { regs := [r], flags := true } t ∧ s.keepsDevices t ∧ s.keepsMemory t := by
  refine ⟨_, rfl, by simp, by simp, by simp, ?_, ?_⟩
  · refine ⟨fun q hq => ?_, by simp, by simp, by simp, by simp, by simp, by simp, by simp, by simp, by simp⟩
    rw [State.getR_tick, State.getR_setFlags, State.getR_setR_other _ _ _ _ (by simpa using hq)]
  · cases r <;> exact State.keeps_of_eq _ _ _ _ _ rfl

theorem modifyHl_next (f : Byte → Flags → Res8) (k : Nat) (s : State) : ∃ t, modifyHl f k s = .next t ∧
    t = ((((s.afterRead s.hl).busWrite s.hl (f (s.peek s.hl) s.cpu.f).value).setFlags
      (f (s.peek s.hl) s.cpu.f).flags).tick k) ∧
    s.keepsCpu { flags := true } t ∧ s.writesOnlyAt s.hl t := by
  refine ⟨_, rfl, rfl, ?_, State.writesOnlyAt_with s _ _ (s.afterRead_writesOnlyAt s.hl _) _ _ _⟩
  exact ⟨fun q _ => by simp, by simp, by simp, by simp, by simp, by simp, by simp, by simp, by simp, by simp⟩

theorem flagsOp_next (f : Flags → Flags) (s : State) : ∃ t, flagsOp f s = .next t ∧ t.cpu.f = f s.cpu.f ∧
    t.cycles = s.cycles + 4 ∧ s.keepsCpu { flags := true } t ∧ s.keepsDevices t ∧ s.keepsMemory t := by
  refine ⟨_, rfl, by simp, by simp, ?_, State.keeps_of_eq _ _ _ _ _ rfl⟩
  exact ⟨fun q _ => by simp, by simp, by simp, by simp, by simp, by simp, by simp, by simp, by simp, by simp⟩

theorem addHlPair_next (r : Rp) (s : State) : ∃ t, addHlPair r s = .next t ∧
    t.hl = (add16 s.hl (s.getRp r) s.cpu.f).value ∧ t.cpu.f = (add16 s.hl (s.getRp r) s.cpu.f).flags ∧
    t.cycles = s.cycles + 8 ∧ s.keepsCpu { regs := [.h, .l], flags := true } t ∧ s.keepsDevices t ∧
    s.keepsMemory t := by
  refine ⟨_, rfl, by simp, by simp, by simp, ?_, State.keeps_of_eq _ _ _ _ _ rfl⟩
  refine ⟨fun q hq => ?_, by simp, by simp, by simp, by simp, by simp, by simp, by simp, by simp, by simp⟩
  cases q <;> simp [State.getR] at hq ⊢

theorem stepPair_next (r : Rp) (w : Word) (s : State) : ∃ t, stepPair r w s = .next t ∧
    t.getRp r = s.getRp r + w ∧ t.cycles = s.cycles + 8 ∧ s.keepsDevices t ∧ s.keepsMemory t ∧
    t = (s.setRp r (s.getRp r + w)).tick 8 :=
  ⟨_, rfl, by simp, by simp, (s.setRp_keeps r _ 8).1, (s.setRp_keeps r _ 8).2, rfl⟩

theorem bitOp_next (b : Oct) (o : Src) (k : Nat) (s : State) : ∃ t, bitOp b o k s = .next t ∧
    t.cpu.f = bitTest b (o.value s) s.cpu.f ∧ t.cycles = s.cycles + k ∧ s.keepsCpu { flags := true } t ∧
    s.keepsDevices t ∧ s.keepsMemory t := by
  obtain ⟨d, hd⟩ := o.after_eq s
  refine ⟨_, rfl, by simp, by rw [hd]; simp, ?_, ?_⟩
  · rw [hd]
    exact ⟨fun q _ => by simp [State.getR], by simp, by simp, by simp, by simp, by simp, by simp, by simp, by simp, by simp⟩
  · rw [hd]; exact State.keeps_of_eq _ _ _ _ _ rfl

/-! ## Control -/

theorem jumpIf_next (taken : Bool) (target : Word) (k m : Nat) (s : State) : ∃ t, jumpIf taken target k m s = .next t ∧
    (taken = true → t.cpu.pc = target ∧ t.cycles = s.cycles + k) ∧
    (taken = false → t.cpu.pc = s.cpu.pc ∧ t.cycles = s.cycles + m) ∧
    s.keepsCpu { pc := true } t ∧ s.keepsDevices t ∧ s.keepsMemory t := by
  cases taken
  · refine ⟨_, rfl, by simp, by simp, ?_, State.keeps_of_eq _ _ _ _ _ rfl⟩
    exact ⟨fun q _ => by simp, by simp, by simp, by simp, by simp, by simp, by simp, by simp, by simp, by simp⟩
  · refine ⟨_, rfl, by simp, by simp, ?_, State.keeps_of_eq _ _ _ _ _ rfl⟩
    exact ⟨fun q _ => by simp, by simp, by simp, by simp, by simp, by simp, by simp, by simp, by simp, by simp⟩

theorem callIf_next (taken : Bool) (target : Word) (k m : Nat) (s : State) : ∃ t, callIf taken target k m s = .next t ∧
    (taken = true → t = ((s.push16 s.cpu.pc).setPc target).tick k) ∧ (taken = false → t = s.tick m) ∧
    s.keepsCpu { sp := true, pc := true } t ∧ s.writesOnlyAtTwo (s.cpu.sp - 1) (s.cpu.sp - 2) t := by
  cases taken
  · refine ⟨_, rfl, by simp, by simp, ?_, ?_⟩
    · exact ⟨fun q _ => by simp, by simp, by simp, by simp, by simp, by simp, by simp, by simp, by simp, by simp⟩
    · exact ⟨fun _ _ _ => rfl, rfl, rfl, fun _ _ => ⟨State.keepsDevices_refl s, fun _ _ _ _ => rfl⟩⟩
  · refine ⟨_, rfl, by simp, by simp, ?_, ?_⟩
    · refine ⟨fun q _ => ?_, by simp, by simp, by simp, by simp, by simp, by simp, by simp, by simp, by simp⟩
      cases q <;> simp [State.getR]
    · exact State.writesOnlyAtTwo_with s _ _ _ (s.push16_writesOnlyAtTwo _) _ _ _

theorem retIf_next (taken : Bool) (k m : Nat) (s : State) : ∃ t, retIf taken k m s = .next t ∧
    (taken = true → t.cpu.pc = s.popValue ∧ t.cpu.sp = s.cpu.sp + 2 ∧ t.cycles = s.cycles + k) ∧
    (taken = false → t = s.tick m) ∧ s.keepsCpu { sp := true, pc := true } t ∧ s.keepsDevices t ∧ s.keepsMemory t := by
  obtain ⟨d, hd⟩ := s.afterPop_eq
  cases taken
  · refine ⟨_, rfl, by simp, by simp, ?_, State.keeps_of_eq _ _ _ _ _ rfl⟩
    exact ⟨fun q _ => by simp, by simp, by simp, by simp, by simp, by simp, by simp, by simp, by simp, by simp⟩
  · refine ⟨_, rfl, by simp, by simp, ?_, ?_⟩
    · refine ⟨fun q _ => ?_, by simp, by simp, by simp, by simp, by simp, by simp, by simp, by simp, by simp⟩
      cases q <;> simp [State.getR]
    · rw [if_pos rfl, hd]; exact State.keeps_of_eq _ _ _ _ _ rfl

end Sys2Proof.Machine
end

