-- ==== Sys2Proof/Laws/Exec.lean ====
section
/-! SUPPORT. What an instruction and a step can do to the state, said once: the pieces a step is made of, and the control latches. -/

namespace Sys2Proof.Machine

/-- The pieces that a step is made of. -/
inductive Piece : State → State → Prop where
  | cpu (s : State) (c : Cpu) : Piece s { s with cpu := c }
  | cycles (s : State) (n : Nat) : Piece s { s with cycles := n }
  | draws (s : State) (n : Nat) : Piece s { s with draws := n }
  | write (s : State) (a : Word) (v : Byte) : Piece s (s.busWrite a v)
  | stopDiv (s : State) : Piece s { s with timer := { s.timer with divCounter := 0 } }
  | acknowledge (s : State) (i : IntSource) : Piece s (s.acknowledge i)
  | device (s : State) : Piece s s.deviceTick

/-- Pieces in a row. -/
abbrev Pieces : State → State → Prop := Relation.ReflTransGen Piece

/-- What every piece keeps, pieces in a row keep. -/
theorem Pieces.keep {P : State → Prop} (h : ∀ s t, Piece s t → P s → P t) {s t : State} (p : Pieces s t) (hs : P s) : P t := by
  induction p with
  | refl => exact hs
  | tail _ q ih => exact h _ _ q ih

/-- No piece. -/
theorem Pieces.start (s : State) : Pieces s s := .refl

theorem Pieces.after {s t u : State} (p : Pieces s t) (q : Piece t u) : Pieces s u := p.tail q

/-- A change of the CPU, the cycles and the draws. -/
theorem Pieces.with {s t : State} (p : Pieces s t) (c : Cpu) (n d : Nat) :
    Pieces s { t with cpu := c, cycles := n, draws := d } :=
  ((p.tail (.cpu _ c)).tail (.cycles _ n)).tail (.draws _ d)

theorem Pieces.busWrite {s t : State} (p : Pieces s t) (a : Word) (v : Byte) : Pieces s (t.busWrite a v) := p.tail (.write _ a v)

theorem Pieces.afterRead {s t : State} (p : Pieces s t) (a : Word) : Pieces s (t.afterRead a) := by
  obtain ⟨d, h⟩ := t.afterRead_eq a
  rw [h]; exact p.tail (.draws _ d)

theorem Pieces.tick {s t : State} (p : Pieces s t) (k : Nat) : Pieces s (t.tick k) := p.tail (.cycles _ _)

theorem Pieces.setR {s t : State} (p : Pieces s t) (r : R8) (v : Byte) : Pieces s (t.setR r v) := by
  cases r <;> exact p.tail (.cpu _ _)

theorem Pieces.setRp {s t : State} (p : Pieces s t) (r : Rp) (v : Word) : Pieces s (t.setRp r v) := by
  cases r <;> exact p.tail (.cpu _ _)

theorem Pieces.setRp2 {s t : State} (p : Pieces s t) (r : Rp2) (v : Word) : Pieces s (t.setRp2 r v) := by
  cases r <;> exact p.tail (.cpu _ _)

theorem Pieces.push16 {s t : State} (p : Pieces s t) (w : Word) : Pieces s (t.push16 w) := by
  rw [State.push16_eq]; exact ((p.busWrite _ _).busWrite _ _).tail (.cpu _ _)

theorem Pieces.afterPop {s t : State} (p : Pieces s t) : Pieces s t.afterPop :=
  ((p.afterRead _).afterRead _).tail (.cpu _ _)

theorem Pieces.advance {s t : State} (p : Pieces s t) (n : Nat) : Pieces s (State.advanceDevices n t) := by
  induction n generalizing t with
  | zero => exact p
  | succ n ih => exact ih (p.tail (.device _))

/-- The instruction costs between 4 and 24 T-cycles and leaves the control latches but IME. -/
def Ordinary (s t : State) : Prop :=
  Pieces s t ∧ (s.cycles + 4 ≤ t.cycles ∧ t.cycles ≤ s.cycles + 24) ∧ t.cpu.run = s.cpu.run ∧
    t.cpu.haltBug = s.cpu.haltBug ∧ t.cpu.eiPending = s.cpu.eiPending ∧ t.cpu.fault = s.cpu.fault

/-- How an instruction ends. -/
inductive Ended (i : Instr) (s t : State) : Prop where
  | ordinary (h : Ordinary s t)
  | halt (hi : i = .halt) (h : t = s.enterHalt.tick 4)
  | stop (n : Byte) (hi : i = .stop n) (h : t = s.enterStop.tick 4)
  | di (hi : i = .di) (h : t = ((s.setIme false).setEiPending false).tick 4)
  | ei (hi : i = .ei) (h : t = (s.setEiPending true).tick 4)
  | decodeError (op : Byte) (h : t = s.raiseDecodeError op)

/-- The answer is a next state, ended in one of those ways. -/
def Did (i : Instr) (s : State) (o : Out) : Prop := ∃ t, o = .next t ∧ Ended i s t

theorem Did.of {i : Instr} {s : State} {o : Out} (h : ∃ t, o = .next t ∧ Ordinary s t) : Did i s o := by
  obtain ⟨t, h, k⟩ := h
  exact ⟨t, h, .ordinary k⟩

theorem Src.cost_le (o : Src) : 4 ≤ o.cost ∧ o.cost ≤ 24 := by cases o <;> simp [Src.cost]

theorem ldRegReg_ordinary (r r' : R8) (s : State) : ∃ t, ldRegReg r r' s = .next t ∧ Ordinary s t :=
  ⟨_, rfl, ((Pieces.start _).setR _ _).tick _, by simp, by cases r <;> simp⟩

theorem ldRegImm_ordinary (r : R8) (n : Byte) (s : State) : ∃ t, ldRegImm r n s = .next t ∧ Ordinary s t :=
  ⟨_, rfl, ((Pieces.start _).setR _ _).tick _, by simp, by cases r <;> simp⟩

theorem ldRegMem_ordinary (r : R8) (a : Word) (k : Nat) (s : State) (hk : 4 ≤ k ∧ k ≤ 24) :
    ∃ t, ldRegMem r a k s = .next t ∧ Ordinary s t :=
  ⟨_, rfl, (((Pieces.start _).afterRead _).setR _ _).tick _, by simpa using hk, by cases r <;> simp⟩

theorem ldMemVal_ordinary (a : Word) (v : Byte) (k : Nat) (s : State) (hk : 4 ≤ k ∧ k ≤ 24) :
    ∃ t, ldMemVal a v k s = .next t ∧ Ordinary s t :=
  ⟨_, rfl, ((Pieces.start _).busWrite _ _).tick _, by simpa using hk, by simp⟩

theorem ldMemSp_ordinary (nn : Word) (s : State) : ∃ t, ldMemSp nn s = .next t ∧ Ordinary s t :=
  ⟨_, rfl, (((Pieces.start _).busWrite _ _).busWrite _ _).tick _, by simp, by simp⟩

theorem ldAHlStep_ordinary (w : Word) (s : State) : ∃ t, ldAHlStep w s = .next t ∧ Ordinary s t :=
  ⟨_, rfl, ((((Pieces.start _).afterRead _).setR _ _).after (.cpu _ _)).tick _, by simp, by simp⟩

theorem ldHlStepA_ordinary (w : Word) (s : State) : ∃ t, ldHlStepA w s = .next t ∧ Ordinary s t :=
  ⟨_, rfl, (((Pieces.start _).busWrite _ _).after (.cpu _ _)).tick _, by simp, by simp⟩

theorem ldPairImm_ordinary (r : Rp) (nn : Word) (s : State) : ∃ t, ldPairImm r nn s = .next t ∧ Ordinary s t :=
  ⟨_, rfl, ((Pieces.start _).setRp _ _).tick _, by simp, by cases r <;> simp⟩

theorem pushPair_ordinary (r : Rp2) (s : State) : ∃ t, pushPair r s = .next t ∧ Ordinary s t :=
  ⟨_, rfl, ((Pieces.start _).push16 _).tick _, by simp, by simp⟩

theorem popPair_ordinary (r : Rp2) (s : State) : ∃ t, popPair r s = .next t ∧ Ordinary s t :=
  ⟨_, rfl, ((Pieces.start _).afterPop.setRp2 _ _).tick _, by simp, by cases r <;> simp⟩

theorem aluOp_ordinary (op : Alu) (o : Src) (s : State) : ∃ t, aluOp op o s = .next t ∧ Ordinary s t := by
  obtain ⟨d, hd⟩ := o.after_eq s
  have hc := o.cost_le
  refine ⟨_, rfl, ?_, ?_, ?_⟩
  · refine Pieces.tick ?_ _
    refine Pieces.after ?_ (.cpu _ _)
    rw [hd]
    split
    · exact (Pieces.start _).after (.draws _ _)
    · exact ((Pieces.start _).after (.draws _ _)).setR _ _
  · rw [hd]; split <;> simp [hc.1, hc.2]
  · rw [hd]; split <;> simp

theorem modifyReg_ordinary (f : Byte → Flags → Res8) (r : R8) (k : Nat) (s : State) (hk : 4 ≤ k ∧ k ≤ 24) :
    ∃ t, modifyReg f r k s = .next t ∧ Ordinary s t :=
  ⟨_, rfl, (((Pieces.start _).setR _ _).after (.cpu _ _)).tick _, by simpa using hk, by cases r <;> simp⟩

theorem modifyHl_ordinary (f : Byte → Flags → Res8) (k : Nat) (s : State) (hk : 4 ≤ k ∧ k ≤ 24) :
    ∃ t, modifyHl f k s = .next t ∧ Ordinary s t :=
  ⟨_, rfl, ((((Pieces.start _).afterRead _).busWrite _ _).after (.cpu _ _)).tick _, by simpa using hk, by simp⟩

theorem flagsOp_ordinary (f : Flags → Flags) (s : State) : ∃ t, flagsOp f s = .next t ∧ Ordinary s t :=
  ⟨_, rfl, ((Pieces.start _).after (.cpu _ _)).tick _, by simp, by simp⟩

theorem addHlPair_ordinary (r : Rp) (s : State) : ∃ t, addHlPair r s = .next t ∧ Ordinary s t :=
  ⟨_, rfl, (((Pieces.start _).after (.cpu _ _)).after (.cpu _ _)).tick _, by simp, by simp⟩

theorem stepPair_ordinary (r : Rp) (w : Word) (s : State) : ∃ t, stepPair r w s = .next t ∧ Ordinary s t :=
  ⟨_, rfl, ((Pieces.start _).setRp _ _).tick _, by simp, by cases r <;> simp⟩

theorem bitOp_ordinary (b : Oct) (o : Src) (k : Nat) (s : State) (hk : 4 ≤ k ∧ k ≤ 24) :
    ∃ t, bitOp b o k s = .next t ∧ Ordinary s t := by
  obtain ⟨d, hd⟩ := o.after_eq s
  refine ⟨_, rfl, ?_, ?_, ?_⟩
  · rw [hd]; exact (((Pieces.start _).after (.draws _ _)).after (.cpu _ _)).tick _
  · rw [hd]; simpa using hk
  · rw [hd]; simp

theorem jumpIf_ordinary (b : Bool) (w : Word) (k m : Nat) (s : State) (hk : 4 ≤ k ∧ k ≤ 24) (hm : 4 ≤ m ∧ m ≤ 24) :
    ∃ t, jumpIf b w k m s = .next t ∧ Ordinary s t := by
  cases b
  · exact ⟨_, rfl, (Pieces.start _).tick _, by simpa using hm, by simp⟩
  · exact ⟨_, rfl, ((Pieces.start _).after (.cpu _ _)).tick _, by simpa using hk, by simp⟩

theorem callIf_ordinary (b : Bool) (w : Word) (k m : Nat) (s : State) (hk : 4 ≤ k ∧ k ≤ 24) (hm : 4 ≤ m ∧ m ≤ 24) :
    ∃ t, callIf b w k m s = .next t ∧ Ordinary s t := by
  cases b
  · exact ⟨_, rfl, (Pieces.start _).tick _, by simpa using hm, by simp⟩
  · exact ⟨_, rfl, (((Pieces.start _).push16 _).after (.cpu _ _)).tick _, by simpa using hk, by simp⟩

theorem retIf_ordinary (b : Bool) (k m : Nat) (s : State) (hk : 4 ≤ k ∧ k ≤ 24) (hm : 4 ≤ m ∧ m ≤ 24) :
    ∃ t, retIf b k m s = .next t ∧ Ordinary s t := by
  cases b
  · exact ⟨_, rfl, (Pieces.start _).tick _, by simpa using hm, by simp⟩
  · exact ⟨_, rfl, ((Pieces.start _).afterPop.after (.cpu _ _)).tick _, by simpa using hk, by simp⟩

theorem illegalOp_did (op : Byte) (s : State) {i : Instr} : Did i s (illegalOp op s) := by
  refine ⟨_, rfl, ?_⟩
  split
  · exact .ordinary ⟨(Pieces.start _).tick _, by simp, by simp⟩
  · exact .decodeError op rfl

/-- What every instruction does, said once. -/
theorem exec_did (s : State) (i : Instr) : Did i s (exec i s) :=
  match i with
  | .nop => .of ⟨_, rfl, (Pieces.start _).tick _, by simp, by simp⟩
  | .ldBcD16 _ => .of (ldPairImm_ordinary _ _ s)
  | .ldIndBcA => .of (ldMemVal_ordinary _ _ _ s (by decide))
  | .incBc => .of (stepPair_ordinary _ _ s)
  | .incB => .of (modifyReg_ordinary _ _ _ s (by decide))
  | .decB => .of (modifyReg_ordinary _ _ _ s (by decide))
  | .ldBD8 _ => .of (ldRegImm_ordinary _ _ s)
  | .rlca => .of (modifyReg_ordinary _ _ _ s (by decide))
  | .ldIndA16Sp _ => .of (ldMemSp_ordinary _ s)
  | .addHlBc => .of (addHlPair_ordinary _ s)
  | .ldAIndBc => .of (ldRegMem_ordinary _ _ _ s (by decide))
  | .decBc => .of (stepPair_ordinary _ _ s)
  | .incC => .of (modifyReg_ordinary _ _ _ s (by decide))
  | .decC => .of (modifyReg_ordinary _ _ _ s (by decide))
  | .ldCD8 _ => .of (ldRegImm_ordinary _ _ s)
  | .rrca => .of (modifyReg_ordinary _ _ _ s (by decide))
  | .stop _ => ⟨_, rfl, .stop _ rfl rfl⟩
  | .ldDeD16 _ => .of (ldPairImm_ordinary _ _ s)
  | .ldIndDeA => .of (ldMemVal_ordinary _ _ _ s (by decide))
  | .incDe => .of (stepPair_ordinary _ _ s)
  | .incD => .of (modifyReg_ordinary _ _ _ s (by decide))
  | .decD => .of (modifyReg_ordinary _ _ _ s (by decide))
  | .ldDD8 _ => .of (ldRegImm_ordinary _ _ s)
  | .rla => .of (modifyReg_ordinary _ _ _ s (by decide))
  | .jrE8 _ => .of (jumpIf_ordinary _ _ _ _ s (by decide) (by decide))
  | .addHlDe => .of (addHlPair_ordinary _ s)
  | .ldAIndDe => .of (ldRegMem_ordinary _ _ _ s (by decide))
  | .decDe => .of (stepPair_ordinary _ _ s)
  | .incE => .of (modifyReg_ordinary _ _ _ s (by decide))
  | .decE => .of (modifyReg_ordinary _ _ _ s (by decide))
  | .ldED8 _ => .of (ldRegImm_ordinary _ _ s)
  | .rra => .of (modifyReg_ordinary _ _ _ s (by decide))
  | .jrNzE8 _ => .of (jumpIf_ordinary _ _ _ _ s (by decide) (by decide))
  | .ldHlD16 _ => .of (ldPairImm_ordinary _ _ s)
  | .ldIndHliA => .of (ldHlStepA_ordinary _ s)
  | .incHl => .of (stepPair_ordinary _ _ s)
  | .incH => .of (modifyReg_ordinary _ _ _ s (by decide))
  | .decH => .of (modifyReg_ordinary _ _ _ s (by decide))
  | .ldHD8 _ => .of (ldRegImm_ordinary _ _ s)
  | .daa => .of (modifyReg_ordinary _ _ _ s (by decide))
  | .jrZE8 _ => .of (jumpIf_ordinary _ _ _ _ s (by decide) (by decide))
  | .addHlHl => .of (addHlPair_ordinary _ s)
  | .ldAIndHli => .of (ldAHlStep_ordinary _ s)
  | .decHl => .of (stepPair_ordinary _ _ s)
  | .incL => .of (modifyReg_ordinary _ _ _ s (by decide))
  | .decL => .of (modifyReg_ordinary _ _ _ s (by decide))
  | .ldLD8 _ => .of (ldRegImm_ordinary _ _ s)
  | .cplA => .of (modifyReg_ordinary _ _ _ s (by decide))
  | .jrNcE8 _ => .of (jumpIf_ordinary _ _ _ _ s (by decide) (by decide))
  | .ldSpD16 _ => .of (ldPairImm_ordinary _ _ s)
  | .ldIndHldA => .of (ldHlStepA_ordinary _ s)
  | .incSp => .of (stepPair_ordinary _ _ s)
  | .incIndHl => .of (modifyHl_ordinary _ _ s (by decide))
  | .decIndHl => .of (modifyHl_ordinary _ _ s (by decide))
  | .ldIndHlD8 _ => .of (ldMemVal_ordinary _ _ _ s (by decide))
  | .scf => .of (flagsOp_ordinary _ s)
  | .jrCE8 _ => .of (jumpIf_ordinary _ _ _ _ s (by decide) (by decide))
  | .addHlSp => .of (addHlPair_ordinary _ s)
  | .ldAIndHld => .of (ldAHlStep_ordinary _ s)
  | .decSp => .of (stepPair_ordinary _ _ s)
  | .incA => .of (modifyReg_ordinary _ _ _ s (by decide))
  | .decA => .of (modifyReg_ordinary _ _ _ s (by decide))
  | .ldAD8 _ => .of (ldRegImm_ordinary _ _ s)
  | .ccf => .of (flagsOp_ordinary _ s)
  | .retNz => .of (retIf_ordinary _ _ _ s (by decide) (by decide))
  | .popBc => .of (popPair_ordinary _ s)
  | .jpNzA16 _ => .of (jumpIf_ordinary _ _ _ _ s (by decide) (by decide))
  | .jpA16 _ => .of (jumpIf_ordinary _ _ _ _ s (by decide) (by decide))
  | .callNzA16 _ => .of (callIf_ordinary _ _ _ _ s (by decide) (by decide))
  | .pushBc => .of (pushPair_ordinary _ s)
  | .addAD8 _ => .of (aluOp_ordinary _ _ s)
  | .rst00 => .of (callIf_ordinary _ _ _ _ s (by decide) (by decide))
  | .retZ => .of (retIf_ordinary _ _ _ s (by decide) (by decide))
  | .ret => .of (retIf_ordinary _ _ _ s (by decide) (by decide))
  | .jpZA16 _ => .of (jumpIf_ordinary _ _ _ _ s (by decide) (by decide))
  | .callZA16 _ => .of (callIf_ordinary _ _ _ _ s (by decide) (by decide))
  | .callA16 _ => .of (callIf_ordinary _ _ _ _ s (by decide) (by decide))
  | .adcAD8 _ => .of (aluOp_ordinary _ _ s)
  | .rst08 => .of (callIf_ordinary _ _ _ _ s (by decide) (by decide))
  | .retNc => .of (retIf_ordinary _ _ _ s (by decide) (by decide))
  | .popDe => .of (popPair_ordinary _ s)
  | .jpNcA16 _ => .of (jumpIf_ordinary _ _ _ _ s (by decide) (by decide))
  | .illegalD3 => illegalOp_did _ s
  | .callNcA16 _ => .of (callIf_ordinary _ _ _ _ s (by decide) (by decide))
  | .pushDe => .of (pushPair_ordinary _ s)
  | .subD8 _ => .of (aluOp_ordinary _ _ s)
  | .rst10 => .of (callIf_ordinary _ _ _ _ s (by decide) (by decide))
  | .retC => .of (retIf_ordinary _ _ _ s (by decide) (by decide))
  | .reti => .of ⟨_, rfl, (((Pieces.start _).afterPop.after (.cpu _ _)).after (.cpu _ _)).tick _, by simp [State.returnFromInterrupt], by simp [State.returnFromInterrupt]⟩
  | .jpCA16 _ => .of (jumpIf_ordinary _ _ _ _ s (by decide) (by decide))
  | .illegalDB => illegalOp_did _ s
  | .callCA16 _ => .of (callIf_ordinary _ _ _ _ s (by decide) (by decide))
  | .illegalDD => illegalOp_did _ s
  | .sbcAD8 _ => .of (aluOp_ordinary _ _ s)
  | .rst18 => .of (callIf_ordinary _ _ _ _ s (by decide) (by decide))
  | .ldhIndA8A _ => .of (ldMemVal_ordinary _ _ _ s (by decide))
  | .popHl => .of (popPair_ordinary _ s)
  | .ldhIndCA => .of (ldMemVal_ordinary _ _ _ s (by decide))
  | .illegalE3 => illegalOp_did _ s
  | .illegalE4 => illegalOp_did _ s
  | .pushHl => .of (pushPair_ordinary _ s)
  | .andD8 _ => .of (aluOp_ordinary _ _ s)
  | .rst20 => .of (callIf_ordinary _ _ _ _ s (by decide) (by decide))
  | .addSpE8 _ => .of ⟨_, rfl, (((Pieces.start _).after (.cpu _ _)).after (.cpu _ _)).tick _, by simp, by simp⟩
  | .jpHl => .of (jumpIf_ordinary _ _ _ _ s (by decide) (by decide))
  | .ldIndA16A _ => .of (ldMemVal_ordinary _ _ _ s (by decide))
  | .illegalEB => illegalOp_did _ s
  | .illegalEC => illegalOp_did _ s
  | .illegalED => illegalOp_did _ s
  | .xorD8 _ => .of (aluOp_ordinary _ _ s)
  | .rst28 => .of (callIf_ordinary _ _ _ _ s (by decide) (by decide))
  | .ldhAIndA8 _ => .of (ldRegMem_ordinary _ _ _ s (by decide))
  | .popAf => .of (popPair_ordinary _ s)
  | .ldhAIndC => .of (ldRegMem_ordinary _ _ _ s (by decide))
  | .di => ⟨_, rfl, .di rfl rfl⟩
  | .illegalF4 => illegalOp_did _ s
  | .pushAf => .of (pushPair_ordinary _ s)
  | .orD8 _ => .of (aluOp_ordinary _ _ s)
  | .rst30 => .of (callIf_ordinary _ _ _ _ s (by decide) (by decide))
  | .ldHlSpE8 _ => .of ⟨_, rfl, (((Pieces.start _).after (.cpu _ _)).after (.cpu _ _)).tick _, by simp, by simp⟩
  | .ldSpHl => .of ⟨_, rfl, ((Pieces.start _).after (.cpu _ _)).tick _, by simp, by simp⟩
  | .ldAIndA16 _ => .of (ldRegMem_ordinary _ _ _ s (by decide))
  | .ei => ⟨_, rfl, .ei rfl rfl⟩
  | .illegalFC => illegalOp_did _ s
  | .illegalFD => illegalOp_did _ s
  | .cpD8 _ => .of (aluOp_ordinary _ _ s)
  | .rst38 => .of (callIf_ordinary _ _ _ _ s (by decide) (by decide))
  | .ldBB => .of (ldRegReg_ordinary _ _ s)
  | .ldBC => .of (ldRegReg_ordinary _ _ s)
  | .ldBD => .of (ldRegReg_ordinary _ _ s)
  | .ldBE => .of (ldRegReg_ordinary _ _ s)
  | .ldBH => .of (ldRegReg_ordinary _ _ s)
  | .ldBL => .of (ldRegReg_ordinary _ _ s)
  | .ldBIndHl => .of (ldRegMem_ordinary _ _ _ s (by decide))
  | .ldBA => .of (ldRegReg_ordinary _ _ s)
  | .ldCB => .of (ldRegReg_ordinary _ _ s)
  | .ldCC => .of (ldRegReg_ordinary _ _ s)
  | .ldCD => .of (ldRegReg_ordinary _ _ s)
  | .ldCE => .of (ldRegReg_ordinary _ _ s)
  | .ldCH => .of (ldRegReg_ordinary _ _ s)
  | .ldCL => .of (ldRegReg_ordinary _ _ s)
  | .ldCIndHl => .of (ldRegMem_ordinary _ _ _ s (by decide))
  | .ldCA => .of (ldRegReg_ordinary _ _ s)
  | .ldDB => .of (ldRegReg_ordinary _ _ s)
  | .ldDC => .of (ldRegReg_ordinary _ _ s)
  | .ldDD => .of (ldRegReg_ordinary _ _ s)
  | .ldDE => .of (ldRegReg_ordinary _ _ s)
  | .ldDH => .of (ldRegReg_ordinary _ _ s)
  | .ldDL => .of (ldRegReg_ordinary _ _ s)
  | .ldDIndHl => .of (ldRegMem_ordinary _ _ _ s (by decide))
  | .ldDA => .of (ldRegReg_ordinary _ _ s)
  | .ldEB => .of (ldRegReg_ordinary _ _ s)
  | .ldEC => .of (ldRegReg_ordinary _ _ s)
  | .ldED => .of (ldRegReg_ordinary _ _ s)
  | .ldEE => .of (ldRegReg_ordinary _ _ s)
  | .ldEH => .of (ldRegReg_ordinary _ _ s)
  | .ldEL => .of (ldRegReg_ordinary _ _ s)
  | .ldEIndHl => .of (ldRegMem_ordinary _ _ _ s (by decide))
  | .ldEA => .of (ldRegReg_ordinary _ _ s)
  | .ldHB => .of (ldRegReg_ordinary _ _ s)
  | .ldHC => .of (ldRegReg_ordinary _ _ s)
  | .ldHD => .of (ldRegReg_ordinary _ _ s)
  | .ldHE => .of (ldRegReg_ordinary _ _ s)
  | .ldHH => .of (ldRegReg_ordinary _ _ s)
  | .ldHL => .of (ldRegReg_ordinary _ _ s)
  | .ldHIndHl => .of (ldRegMem_ordinary _ _ _ s (by decide))
  | .ldHA => .of (ldRegReg_ordinary _ _ s)
  | .ldLB => .of (ldRegReg_ordinary _ _ s)
  | .ldLC => .of (ldRegReg_ordinary _ _ s)
  | .ldLD => .of (ldRegReg_ordinary _ _ s)
  | .ldLE => .of (ldRegReg_ordinary _ _ s)
  | .ldLH => .of (ldRegReg_ordinary _ _ s)
  | .ldLL => .of (ldRegReg_ordinary _ _ s)
  | .ldLIndHl => .of (ldRegMem_ordinary _ _ _ s (by decide))
  | .ldLA => .of (ldRegReg_ordinary _ _ s)
  | .ldIndHlB => .of (ldMemVal_ordinary _ _ _ s (by decide))
  | .ldIndHlC => .of (ldMemVal_ordinary _ _ _ s (by decide))
  | .ldIndHlD => .of (ldMemVal_ordinary _ _ _ s (by decide))
  | .ldIndHlE => .of (ldMemVal_ordinary _ _ _ s (by decide))
  | .ldIndHlH => .of (ldMemVal_ordinary _ _ _ s (by decide))
  | .ldIndHlL => .of (ldMemVal_ordinary _ _ _ s (by decide))
  | .halt => ⟨_, rfl, .halt rfl rfl⟩
  | .ldIndHlA => .of (ldMemVal_ordinary _ _ _ s (by decide))
  | .ldAB => .of (ldRegReg_ordinary _ _ s)
  | .ldAC => .of (ldRegReg_ordinary _ _ s)
  | .ldAD => .of (ldRegReg_ordinary _ _ s)
  | .ldAE => .of (ldRegReg_ordinary _ _ s)
  | .ldAH => .of (ldRegReg_ordinary _ _ s)
  | .ldAL => .of (ldRegReg_ordinary _ _ s)
  | .ldAIndHl => .of (ldRegMem_ordinary _ _ _ s (by decide))
  | .ldAA => .of (ldRegReg_ordinary _ _ s)
  | .addAB => .of (aluOp_ordinary _ _ s)
  | .addAC => .of (aluOp_ordinary _ _ s)
  | .addAD => .of (aluOp_ordinary _ _ s)
  | .addAE => .of (aluOp_ordinary _ _ s)
  | .addAH => .of (aluOp_ordinary _ _ s)
  | .addAL => .of (aluOp_ordinary _ _ s)
  | .addAIndHl => .of (aluOp_ordinary _ _ s)
  | .addAA => .of (aluOp_ordinary _ _ s)
  | .adcAB => .of (aluOp_ordinary _ _ s)
  | .adcAC => .of (aluOp_ordinary _ _ s)
  | .adcAD => .of (aluOp_ordinary _ _ s)
  | .adcAE => .of (aluOp_ordinary _ _ s)
  | .adcAH => .of (aluOp_ordinary _ _ s)
  | .adcAL => .of (aluOp_ordinary _ _ s)
  | .adcAIndHl => .of (aluOp_ordinary _ _ s)
  | .adcAA => .of (aluOp_ordinary _ _ s)
  | .subB => .of (aluOp_ordinary _ _ s)
  | .subC => .of (aluOp_ordinary _ _ s)
  | .subD => .of (aluOp_ordinary _ _ s)
  | .subE => .of (aluOp_ordinary _ _ s)
  | .subH => .of (aluOp_ordinary _ _ s)
  | .subL => .of (aluOp_ordinary _ _ s)
  | .subIndHl => .of (aluOp_ordinary _ _ s)
  | .subA => .of (aluOp_ordinary _ _ s)
  | .sbcAB => .of (aluOp_ordinary _ _ s)
  | .sbcAC => .of (aluOp_ordinary _ _ s)
  | .sbcAD => .of (aluOp_ordinary _ _ s)
  | .sbcAE => .of (aluOp_ordinary _ _ s)
  | .sbcAH => .of (aluOp_ordinary _ _ s)
  | .sbcAL => .of (aluOp_ordinary _ _ s)
  | .sbcAIndHl => .of (aluOp_ordinary _ _ s)
  | .sbcAA => .of (aluOp_ordinary _ _ s)
  | .andB => .of (aluOp_ordinary _ _ s)
  | .andC => .of (aluOp_ordinary _ _ s)
  | .andD => .of (aluOp_ordinary _ _ s)
  | .andE => .of (aluOp_ordinary _ _ s)
  | .andH => .of (aluOp_ordinary _ _ s)
  | .andL => .of (aluOp_ordinary _ _ s)
  | .andIndHl => .of (aluOp_ordinary _ _ s)
  | .andA => .of (aluOp_ordinary _ _ s)
  | .xorB => .of (aluOp_ordinary _ _ s)
  | .xorC => .of (aluOp_ordinary _ _ s)
  | .xorD => .of (aluOp_ordinary _ _ s)
  | .xorE => .of (aluOp_ordinary _ _ s)
  | .xorH => .of (aluOp_ordinary _ _ s)
  | .xorL => .of (aluOp_ordinary _ _ s)
  | .xorIndHl => .of (aluOp_ordinary _ _ s)
  | .xorA => .of (aluOp_ordinary _ _ s)
  | .orB => .of (aluOp_ordinary _ _ s)
  | .orC => .of (aluOp_ordinary _ _ s)
  | .orD => .of (aluOp_ordinary _ _ s)
  | .orE => .of (aluOp_ordinary _ _ s)
  | .orH => .of (aluOp_ordinary _ _ s)
  | .orL => .of (aluOp_ordinary _ _ s)
  | .orIndHl => .of (aluOp_ordinary _ _ s)
  | .orA => .of (aluOp_ordinary _ _ s)
  | .cpB => .of (aluOp_ordinary _ _ s)
  | .cpC => .of (aluOp_ordinary _ _ s)
  | .cpD => .of (aluOp_ordinary _ _ s)
  | .cpE => .of (aluOp_ordinary _ _ s)
  | .cpH => .of (aluOp_ordinary _ _ s)
  | .cpL => .of (aluOp_ordinary _ _ s)
  | .cpIndHl => .of (aluOp_ordinary _ _ s)
  | .cpA => .of (aluOp_ordinary _ _ s)
  | .cbRlcB => .of (modifyReg_ordinary _ _ _ s (by decide))
  | .cbRlcC => .of (modifyReg_ordinary _ _ _ s (by decide))
  | .cbRlcD => .of (modifyReg_ordinary _ _ _ s (by decide))
  | .cbRlcE => .of (modifyReg_ordinary _ _ _ s (by decide))
  | .cbRlcH => .of (modifyReg_ordinary _ _ _ s (by decide))
  | .cbRlcL => .of (modifyReg_ordinary _ _ _ s (by decide))
  | .cbRlcIndHl => .of (modifyHl_ordinary _ _ s (by decide))
  | .cbRlcA => .of (modifyReg_ordinary _ _ _ s (by decide))
  | .cbRrcB => .of (modifyReg_ordinary _ _ _ s (by decide))
  | .cbRrcC => .of (modifyReg_ordinary _ _ _ s (by decide))
  | .cbRrcD => .of (modifyReg_ordinary _ _ _ s (by decide))
  | .cbRrcE => .of (modifyReg_ordinary _ _ _ s (by decide))
  | .cbRrcH => .of (modifyReg_ordinary _ _ _ s (by decide))
  | .cbRrcL => .of (modifyReg_ordinary _ _ _ s (by decide))
  | .cbRrcIndHl => .of (modifyHl_ordinary _ _ s (by decide))
  | .cbRrcA => .of (modifyReg_ordinary _ _ _ s (by decide))
  | .cbRlB => .of (modifyReg_ordinary _ _ _ s (by decide))
  | .cbRlC => .of (modifyReg_ordinary _ _ _ s (by decide))
  | .cbRlD => .of (modifyReg_ordinary _ _ _ s (by decide))
  | .cbRlE => .of (modifyReg_ordinary _ _ _ s (by decide))
  | .cbRlH => .of (modifyReg_ordinary _ _ _ s (by decide))
  | .cbRlL => .of (modifyReg_ordinary _ _ _ s (by decide))
  | .cbRlIndHl => .of (modifyHl_ordinary _ _ s (by decide))
  | .cbRlA => .of (modifyReg_ordinary _ _ _ s (by decide))
  | .cbRrB => .of (modifyReg_ordinary _ _ _ s (by decide))
  | .cbRrC => .of (modifyReg_ordinary _ _ _ s (by decide))
  | .cbRrD => .of (modifyReg_ordinary _ _ _ s (by decide))
  | .cbRrE => .of (modifyReg_ordinary _ _ _ s (by decide))
  | .cbRrH => .of (modifyReg_ordinary _ _ _ s (by decide))
  | .cbRrL => .of (modifyReg_ordinary _ _ _ s (by decide))
  | .cbRrIndHl => .of (modifyHl_ordinary _ _ s (by decide))
  | .cbRrA => .of (modifyReg_ordinary _ _ _ s (by decide))
  | .cbSlaB => .of (modifyReg_ordinary _ _ _ s (by decide))
  | .cbSlaC => .of (modifyReg_ordinary _ _ _ s (by decide))
  | .cbSlaD => .of (modifyReg_ordinary _ _ _ s (by decide))
  | .cbSlaE => .of (modifyReg_ordinary _ _ _ s (by decide))
  | .cbSlaH => .of (modifyReg_ordinary _ _ _ s (by decide))
  | .cbSlaL => .of (modifyReg_ordinary _ _ _ s (by decide))
  | .cbSlaIndHl => .of (modifyHl_ordinary _ _ s (by decide))
  | .cbSlaA => .of (modifyReg_ordinary _ _ _ s (by decide))
  | .cbSraB => .of (modifyReg_ordinary _ _ _ s (by decide))
  | .cbSraC => .of (modifyReg_ordinary _ _ _ s (by decide))
  | .cbSraD => .of (modifyReg_ordinary _ _ _ s (by decide))
  | .cbSraE => .of (modifyReg_ordinary _ _ _ s (by decide))
  | .cbSraH => .of (modifyReg_ordinary _ _ _ s (by decide))
  | .cbSraL => .of (modifyReg_ordinary _ _ _ s (by decide))
  | .cbSraIndHl => .of (modifyHl_ordinary _ _ s (by decide))
  | .cbSraA => .of (modifyReg_ordinary _ _ _ s (by decide))
  | .cbSwapB => .of (modifyReg_ordinary _ _ _ s (by decide))
  | .cbSwapC => .of (modifyReg_ordinary _ _ _ s (by decide))
  | .cbSwapD => .of (modifyReg_ordinary _ _ _ s (by decide))
  | .cbSwapE => .of (modifyReg_ordinary _ _ _ s (by decide))
  | .cbSwapH => .of (modifyReg_ordinary _ _ _ s (by decide))
  | .cbSwapL => .of (modifyReg_ordinary _ _ _ s (by decide))
  | .cbSwapIndHl => .of (modifyHl_ordinary _ _ s (by decide))
  | .cbSwapA => .of (modifyReg_ordinary _ _ _ s (by decide))
  | .cbSrlB => .of (modifyReg_ordinary _ _ _ s (by decide))
  | .cbSrlC => .of (modifyReg_ordinary _ _ _ s (by decide))
  | .cbSrlD => .of (modifyReg_ordinary _ _ _ s (by decide))
  | .cbSrlE => .of (modifyReg_ordinary _ _ _ s (by decide))
  | .cbSrlH => .of (modifyReg_ordinary _ _ _ s (by decide))
  | .cbSrlL => .of (modifyReg_ordinary _ _ _ s (by decide))
  | .cbSrlIndHl => .of (modifyHl_ordinary _ _ s (by decide))
  | .cbSrlA => .of (modifyReg_ordinary _ _ _ s (by decide))
  | .cbBit0B => .of (bitOp_ordinary _ _ _ s (by decide))
  | .cbBit0C => .of (bitOp_ordinary _ _ _ s (by decide))
  | .cbBit0D => .of (bitOp_ordinary _ _ _ s (by decide))
  | .cbBit0E => .of (bitOp_ordinary _ _ _ s (by decide))
  | .cbBit0H => .of (bitOp_ordinary _ _ _ s (by decide))
  | .cbBit0L => .of (bitOp_ordinary _ _ _ s (by decide))
  | .cbBit0IndHl => .of (bitOp_ordinary _ _ _ s (by decide))
  | .cbBit0A => .of (bitOp_ordinary _ _ _ s (by decide))
  | .cbBit1B => .of (bitOp_ordinary _ _ _ s (by decide))
  | .cbBit1C => .of (bitOp_ordinary _ _ _ s (by decide))
  | .cbBit1D => .of (bitOp_ordinary _ _ _ s (by decide))
  | .cbBit1E => .of (bitOp_ordinary _ _ _ s (by decide))
  | .cbBit1H => .of (bitOp_ordinary _ _ _ s (by decide))
  | .cbBit1L => .of (bitOp_ordinary _ _ _ s (by decide))
  | .cbBit1IndHl => .of (bitOp_ordinary _ _ _ s (by decide))
  | .cbBit1A => .of (bitOp_ordinary _ _ _ s (by decide))
  | .cbBit2B => .of (bitOp_ordinary _ _ _ s (by decide))
  | .cbBit2C => .of (bitOp_ordinary _ _ _ s (by decide))
  | .cbBit2D => .of (bitOp_ordinary _ _ _ s (by decide))
  | .cbBit2E => .of (bitOp_ordinary _ _ _ s (by decide))
  | .cbBit2H => .of (bitOp_ordinary _ _ _ s (by decide))
  | .cbBit2L => .of (bitOp_ordinary _ _ _ s (by decide))
  | .cbBit2IndHl => .of (bitOp_ordinary _ _ _ s (by decide))
  | .cbBit2A => .of (bitOp_ordinary _ _ _ s (by decide))
  | .cbBit3B => .of (bitOp_ordinary _ _ _ s (by decide))
  | .cbBit3C => .of (bitOp_ordinary _ _ _ s (by decide))
  | .cbBit3D => .of (bitOp_ordinary _ _ _ s (by decide))
  | .cbBit3E => .of (bitOp_ordinary _ _ _ s (by decide))
  | .cbBit3H => .of (bitOp_ordinary _ _ _ s (by decide))
  | .cbBit3L => .of (bitOp_ordinary _ _ _ s (by decide))
  | .cbBit3IndHl => .of (bitOp_ordinary _ _ _ s (by decide))
  | .cbBit3A => .of (bitOp_ordinary _ _ _ s (by decide))
  | .cbBit4B => .of (bitOp_ordinary _ _ _ s (by decide))
  | .cbBit4C => .of (bitOp_ordinary _ _ _ s (by decide))
  | .cbBit4D => .of (bitOp_ordinary _ _ _ s (by decide))
  | .cbBit4E => .of (bitOp_ordinary _ _ _ s (by decide))
  | .cbBit4H => .of (bitOp_ordinary _ _ _ s (by decide))
  | .cbBit4L => .of (bitOp_ordinary _ _ _ s (by decide))
  | .cbBit4IndHl => .of (bitOp_ordinary _ _ _ s (by decide))
  | .cbBit4A => .of (bitOp_ordinary _ _ _ s (by decide))
  | .cbBit5B => .of (bitOp_ordinary _ _ _ s (by decide))
  | .cbBit5C => .of (bitOp_ordinary _ _ _ s (by decide))
  | .cbBit5D => .of (bitOp_ordinary _ _ _ s (by decide))
  | .cbBit5E => .of (bitOp_ordinary _ _ _ s (by decide))
  | .cbBit5H => .of (bitOp_ordinary _ _ _ s (by decide))
  | .cbBit5L => .of (bitOp_ordinary _ _ _ s (by decide))
  | .cbBit5IndHl => .of (bitOp_ordinary _ _ _ s (by decide))
  | .cbBit5A => .of (bitOp_ordinary _ _ _ s (by decide))
  | .cbBit6B => .of (bitOp_ordinary _ _ _ s (by decide))
  | .cbBit6C => .of (bitOp_ordinary _ _ _ s (by decide))
  | .cbBit6D => .of (bitOp_ordinary _ _ _ s (by decide))
  | .cbBit6E => .of (bitOp_ordinary _ _ _ s (by decide))
  | .cbBit6H => .of (bitOp_ordinary _ _ _ s (by decide))
  | .cbBit6L => .of (bitOp_ordinary _ _ _ s (by decide))
  | .cbBit6IndHl => .of (bitOp_ordinary _ _ _ s (by decide))
  | .cbBit6A => .of (bitOp_ordinary _ _ _ s (by decide))
  | .cbBit7B => .of (bitOp_ordinary _ _ _ s (by decide))
  | .cbBit7C => .of (bitOp_ordinary _ _ _ s (by decide))
  | .cbBit7D => .of (bitOp_ordinary _ _ _ s (by decide))
  | .cbBit7E => .of (bitOp_ordinary _ _ _ s (by decide))
  | .cbBit7H => .of (bitOp_ordinary _ _ _ s (by decide))
  | .cbBit7L => .of (bitOp_ordinary _ _ _ s (by decide))
  | .cbBit7IndHl => .of (bitOp_ordinary _ _ _ s (by decide))
  | .cbBit7A => .of (bitOp_ordinary _ _ _ s (by decide))
  | .cbRes0B => .of (modifyReg_ordinary _ _ _ s (by decide))
  | .cbRes0C => .of (modifyReg_ordinary _ _ _ s (by decide))
  | .cbRes0D => .of (modifyReg_ordinary _ _ _ s (by decide))
  | .cbRes0E => .of (modifyReg_ordinary _ _ _ s (by decide))
  | .cbRes0H => .of (modifyReg_ordinary _ _ _ s (by decide))
  | .cbRes0L => .of (modifyReg_ordinary _ _ _ s (by decide))
  | .cbRes0IndHl => .of (modifyHl_ordinary _ _ s (by decide))
  | .cbRes0A => .of (modifyReg_ordinary _ _ _ s (by decide))
  | .cbRes1B => .of (modifyReg_ordinary _ _ _ s (by decide))
  | .cbRes1C => .of (modifyReg_ordinary _ _ _ s (by decide))
  | .cbRes1D => .of (modifyReg_ordinary _ _ _ s (by decide))
  | .cbRes1E => .of (modifyReg_ordinary _ _ _ s (by decide))
  | .cbRes1H => .of (modifyReg_ordinary _ _ _ s (by decide))
  | .cbRes1L => .of (modifyReg_ordinary _ _ _ s (by decide))
  | .cbRes1IndHl => .of (modifyHl_ordinary _ _ s (by decide))
  | .cbRes1A => .of (modifyReg_ordinary _ _ _ s (by decide))
  | .cbRes2B => .of (modifyReg_ordinary _ _ _ s (by decide))
  | .cbRes2C => .of (modifyReg_ordinary _ _ _ s (by decide))
  | .cbRes2D => .of (modifyReg_ordinary _ _ _ s (by decide))
  | .cbRes2E => .of (modifyReg_ordinary _ _ _ s (by decide))
  | .cbRes2H => .of (modifyReg_ordinary _ _ _ s (by decide))
  | .cbRes2L => .of (modifyReg_ordinary _ _ _ s (by decide))
  | .cbRes2IndHl => .of (modifyHl_ordinary _ _ s (by decide))
  | .cbRes2A => .of (modifyReg_ordinary _ _ _ s (by decide))
  | .cbRes3B => .of (modifyReg_ordinary _ _ _ s (by decide))
  | .cbRes3C => .of (modifyReg_ordinary _ _ _ s (by decide))
  | .cbRes3D => .of (modifyReg_ordinary _ _ _ s (by decide))
  | .cbRes3E => .of (modifyReg_ordinary _ _ _ s (by decide))
  | .cbRes3H => .of (modifyReg_ordinary _ _ _ s (by decide))
  | .cbRes3L => .of (modifyReg_ordinary _ _ _ s (by decide))
  | .cbRes3IndHl => .of (modifyHl_ordinary _ _ s (by decide))
  | .cbRes3A => .of (modifyReg_ordinary _ _ _ s (by decide))
  | .cbRes4B => .of (modifyReg_ordinary _ _ _ s (by decide))
  | .cbRes4C => .of (modifyReg_ordinary _ _ _ s (by decide))
  | .cbRes4D => .of (modifyReg_ordinary _ _ _ s (by decide))
  | .cbRes4E => .of (modifyReg_ordinary _ _ _ s (by decide))
  | .cbRes4H => .of (modifyReg_ordinary _ _ _ s (by decide))
  | .cbRes4L => .of (modifyReg_ordinary _ _ _ s (by decide))
  | .cbRes4IndHl => .of (modifyHl_ordinary _ _ s (by decide))
  | .cbRes4A => .of (modifyReg_ordinary _ _ _ s (by decide))
  | .cbRes5B => .of (modifyReg_ordinary _ _ _ s (by decide))
  | .cbRes5C => .of (modifyReg_ordinary _ _ _ s (by decide))
  | .cbRes5D => .of (modifyReg_ordinary _ _ _ s (by decide))
  | .cbRes5E => .of (modifyReg_ordinary _ _ _ s (by decide))
  | .cbRes5H => .of (modifyReg_ordinary _ _ _ s (by decide))
  | .cbRes5L => .of (modifyReg_ordinary _ _ _ s (by decide))
  | .cbRes5IndHl => .of (modifyHl_ordinary _ _ s (by decide))
  | .cbRes5A => .of (modifyReg_ordinary _ _ _ s (by decide))
  | .cbRes6B => .of (modifyReg_ordinary _ _ _ s (by decide))
  | .cbRes6C => .of (modifyReg_ordinary _ _ _ s (by decide))
  | .cbRes6D => .of (modifyReg_ordinary _ _ _ s (by decide))
  | .cbRes6E => .of (modifyReg_ordinary _ _ _ s (by decide))
  | .cbRes6H => .of (modifyReg_ordinary _ _ _ s (by decide))
  | .cbRes6L => .of (modifyReg_ordinary _ _ _ s (by decide))
  | .cbRes6IndHl => .of (modifyHl_ordinary _ _ s (by decide))
  | .cbRes6A => .of (modifyReg_ordinary _ _ _ s (by decide))
  | .cbRes7B => .of (modifyReg_ordinary _ _ _ s (by decide))
  | .cbRes7C => .of (modifyReg_ordinary _ _ _ s (by decide))
  | .cbRes7D => .of (modifyReg_ordinary _ _ _ s (by decide))
  | .cbRes7E => .of (modifyReg_ordinary _ _ _ s (by decide))
  | .cbRes7H => .of (modifyReg_ordinary _ _ _ s (by decide))
  | .cbRes7L => .of (modifyReg_ordinary _ _ _ s (by decide))
  | .cbRes7IndHl => .of (modifyHl_ordinary _ _ s (by decide))
  | .cbRes7A => .of (modifyReg_ordinary _ _ _ s (by decide))
  | .cbSet0B => .of (modifyReg_ordinary _ _ _ s (by decide))
  | .cbSet0C => .of (modifyReg_ordinary _ _ _ s (by decide))
  | .cbSet0D => .of (modifyReg_ordinary _ _ _ s (by decide))
  | .cbSet0E => .of (modifyReg_ordinary _ _ _ s (by decide))
  | .cbSet0H => .of (modifyReg_ordinary _ _ _ s (by decide))
  | .cbSet0L => .of (modifyReg_ordinary _ _ _ s (by decide))
  | .cbSet0IndHl => .of (modifyHl_ordinary _ _ s (by decide))
  | .cbSet0A => .of (modifyReg_ordinary _ _ _ s (by decide))
  | .cbSet1B => .of (modifyReg_ordinary _ _ _ s (by decide))
  | .cbSet1C => .of (modifyReg_ordinary _ _ _ s (by decide))
  | .cbSet1D => .of (modifyReg_ordinary _ _ _ s (by decide))
  | .cbSet1E => .of (modifyReg_ordinary _ _ _ s (by decide))
  | .cbSet1H => .of (modifyReg_ordinary _ _ _ s (by decide))
  | .cbSet1L => .of (modifyReg_ordinary _ _ _ s (by decide))
  | .cbSet1IndHl => .of (modifyHl_ordinary _ _ s (by decide))
  | .cbSet1A => .of (modifyReg_ordinary _ _ _ s (by decide))
  | .cbSet2B => .of (modifyReg_ordinary _ _ _ s (by decide))
  | .cbSet2C => .of (modifyReg_ordinary _ _ _ s (by decide))
  | .cbSet2D => .of (modifyReg_ordinary _ _ _ s (by decide))
  | .cbSet2E => .of (modifyReg_ordinary _ _ _ s (by decide))
  | .cbSet2H => .of (modifyReg_ordinary _ _ _ s (by decide))
  | .cbSet2L => .of (modifyReg_ordinary _ _ _ s (by decide))
  | .cbSet2IndHl => .of (modifyHl_ordinary _ _ s (by decide))
  | .cbSet2A => .of (modifyReg_ordinary _ _ _ s (by decide))
  | .cbSet3B => .of (modifyReg_ordinary _ _ _ s (by decide))
  | .cbSet3C => .of (modifyReg_ordinary _ _ _ s (by decide))
  | .cbSet3D => .of (modifyReg_ordinary _ _ _ s (by decide))
  | .cbSet3E => .of (modifyReg_ordinary _ _ _ s (by decide))
  | .cbSet3H => .of (modifyReg_ordinary _ _ _ s (by decide))
  | .cbSet3L => .of (modifyReg_ordinary _ _ _ s (by decide))
  | .cbSet3IndHl => .of (modifyHl_ordinary _ _ s (by decide))
  | .cbSet3A => .of (modifyReg_ordinary _ _ _ s (by decide))
  | .cbSet4B => .of (modifyReg_ordinary _ _ _ s (by decide))
  | .cbSet4C => .of (modifyReg_ordinary _ _ _ s (by decide))
  | .cbSet4D => .of (modifyReg_ordinary _ _ _ s (by decide))
  | .cbSet4E => .of (modifyReg_ordinary _ _ _ s (by decide))
  | .cbSet4H => .of (modifyReg_ordinary _ _ _ s (by decide))
  | .cbSet4L => .of (modifyReg_ordinary _ _ _ s (by decide))
  | .cbSet4IndHl => .of (modifyHl_ordinary _ _ s (by decide))
  | .cbSet4A => .of (modifyReg_ordinary _ _ _ s (by decide))
  | .cbSet5B => .of (modifyReg_ordinary _ _ _ s (by decide))
  | .cbSet5C => .of (modifyReg_ordinary _ _ _ s (by decide))
  | .cbSet5D => .of (modifyReg_ordinary _ _ _ s (by decide))
  | .cbSet5E => .of (modifyReg_ordinary _ _ _ s (by decide))
  | .cbSet5H => .of (modifyReg_ordinary _ _ _ s (by decide))
  | .cbSet5L => .of (modifyReg_ordinary _ _ _ s (by decide))
  | .cbSet5IndHl => .of (modifyHl_ordinary _ _ s (by decide))
  | .cbSet5A => .of (modifyReg_ordinary _ _ _ s (by decide))
  | .cbSet6B => .of (modifyReg_ordinary _ _ _ s (by decide))
  | .cbSet6C => .of (modifyReg_ordinary _ _ _ s (by decide))
  | .cbSet6D => .of (modifyReg_ordinary _ _ _ s (by decide))
  | .cbSet6E => .of (modifyReg_ordinary _ _ _ s (by decide))
  | .cbSet6H => .of (modifyReg_ordinary _ _ _ s (by decide))
  | .cbSet6L => .of (modifyReg_ordinary _ _ _ s (by decide))
  | .cbSet6IndHl => .of (modifyHl_ordinary _ _ s (by decide))
  | .cbSet6A => .of (modifyReg_ordinary _ _ _ s (by decide))
  | .cbSet7B => .of (modifyReg_ordinary _ _ _ s (by decide))
  | .cbSet7C => .of (modifyReg_ordinary _ _ _ s (by decide))
  | .cbSet7D => .of (modifyReg_ordinary _ _ _ s (by decide))
  | .cbSet7E => .of (modifyReg_ordinary _ _ _ s (by decide))
  | .cbSet7H => .of (modifyReg_ordinary _ _ _ s (by decide))
  | .cbSet7L => .of (modifyReg_ordinary _ _ _ s (by decide))
  | .cbSet7IndHl => .of (modifyHl_ordinary _ _ s (by decide))
  | .cbSet7A => .of (modifyReg_ordinary _ _ _ s (by decide))

end Sys2Proof.Machine
end

