-- ==== Sys2Proof/Laws/HostOps.lean ====
section
/-! SUPPORT. Restore: what comes from the snapshot and what stays the running machine's. -/

namespace Sys2Proof.Machine

@[simp] theorem restore_cpu (saved current : State) : (restore saved current).cpu = saved.cpu := rfl
@[simp] theorem restore_cycles (saved current : State) : (restore saved current).cycles = saved.cycles := rfl
@[simp] theorem restore_intr (saved current : State) : (restore saved current).intr = saved.intr := rfl
@[simp] theorem restore_timer (saved current : State) : (restore saved current).timer = saved.timer := rfl
@[simp] theorem restore_joypad (saved current : State) : (restore saved current).joypad = saved.joypad := rfl
@[simp] theorem restore_serial (saved current : State) : (restore saved current).serial = saved.serial := rfl
@[simp] theorem restore_ppu (saved current : State) : (restore saved current).ppu = saved.ppu := rfl
@[simp] theorem restore_dma (saved current : State) : (restore saved current).dma = saved.dma := rfl
@[simp] theorem restore_mapper (saved current : State) : (restore saved current).mapper = saved.mapper := rfl
@[simp] theorem restore_mem (saved current : State) : (restore saved current).mem = saved.mem := rfl
@[simp] theorem restore_draws (saved current : State) : (restore saved current).draws = current.draws := rfl
@[simp] theorem restore_launch (saved current : State) : (restore saved current).launch = current.launch := rfl

/-- A snapshot restored into an instance of the same launch, its draws standing where the snapshot's stood, is the machine the
snapshot was taken of (60_exceptions.md R1097). -/
theorem restore_snapshot (s fresh : State) (hl : fresh.launch = s.launch) (hd : fresh.draws = s.draws) :
    restore (snapshot s) fresh = s := by
  rw [restore, snapshot, hl, hd]

end Sys2Proof.Machine
end

