-- ==== Sys2Proof/Laws/PerInstr.lean ====
section
/-! SUPPORT. The statements made of every instruction, one lemma for each constructor. -/

/-- The instruction is well formed, and its encoding has as many bytes as its own first byte says (30_encoding.md R303). -/
def Sys2Proof.Laws.Encoding.Statement (i : Sys2Proof.Instr) : Prop :=
  i.wellFormed = true ∧ (Sys2Proof.encode i).length = Sys2Proof.instrLength ((Sys2Proof.encode i).headD 0)

theorem Sys2Proof.Laws.Encoding.nop : Sys2Proof.Laws.Encoding.Statement .nop := ⟨rfl, rfl⟩
theorem Sys2Proof.Laws.Encoding.ldBcD16 (nn : Sys2Proof.Word) : Sys2Proof.Laws.Encoding.Statement (.ldBcD16 nn) := ⟨rfl, rfl⟩
theorem Sys2Proof.Laws.Encoding.ldIndBcA : Sys2Proof.Laws.Encoding.Statement .ldIndBcA := ⟨rfl, rfl⟩
theorem Sys2Proof.Laws.Encoding.incBc : Sys2Proof.Laws.Encoding.Statement .incBc := ⟨rfl, rfl⟩
theorem Sys2Proof.Laws.Encoding.incB : Sys2Proof.Laws.Encoding.Statement .incB := ⟨rfl, rfl⟩
theorem Sys2Proof.Laws.Encoding.decB : Sys2Proof.Laws.Encoding.Statement .decB := ⟨rfl, rfl⟩
theorem Sys2Proof.Laws.Encoding.ldBD8 (n : Sys2Proof.Byte) : Sys2Proof.Laws.Encoding.Statement (.ldBD8 n) := ⟨rfl, rfl⟩
theorem Sys2Proof.Laws.Encoding.rlca : Sys2Proof.Laws.Encoding.Statement .rlca := ⟨rfl, rfl⟩
theorem Sys2Proof.Laws.Encoding.ldIndA16Sp (nn : Sys2Proof.Word) : Sys2Proof.Laws.Encoding.Statement (.ldIndA16Sp nn) := ⟨rfl, rfl⟩
theorem Sys2Proof.Laws.Encoding.addHlBc : Sys2Proof.Laws.Encoding.Statement .addHlBc := ⟨rfl, rfl⟩
theorem Sys2Proof.Laws.Encoding.ldAIndBc : Sys2Proof.Laws.Encoding.Statement .ldAIndBc := ⟨rfl, rfl⟩
theorem Sys2Proof.Laws.Encoding.decBc : Sys2Proof.Laws.Encoding.Statement .decBc := ⟨rfl, rfl⟩
theorem Sys2Proof.Laws.Encoding.incC : Sys2Proof.Laws.Encoding.Statement .incC := ⟨rfl, rfl⟩
theorem Sys2Proof.Laws.Encoding.decC : Sys2Proof.Laws.Encoding.Statement .decC := ⟨rfl, rfl⟩
theorem Sys2Proof.Laws.Encoding.ldCD8 (n : Sys2Proof.Byte) : Sys2Proof.Laws.Encoding.Statement (.ldCD8 n) := ⟨rfl, rfl⟩
theorem Sys2Proof.Laws.Encoding.rrca : Sys2Proof.Laws.Encoding.Statement .rrca := ⟨rfl, rfl⟩
theorem Sys2Proof.Laws.Encoding.stop (n : Sys2Proof.Byte) : Sys2Proof.Laws.Encoding.Statement (.stop n) := ⟨rfl, rfl⟩
theorem Sys2Proof.Laws.Encoding.ldDeD16 (nn : Sys2Proof.Word) : Sys2Proof.Laws.Encoding.Statement (.ldDeD16 nn) := ⟨rfl, rfl⟩
theorem Sys2Proof.Laws.Encoding.ldIndDeA : Sys2Proof.Laws.Encoding.Statement .ldIndDeA := ⟨rfl, rfl⟩
theorem Sys2Proof.Laws.Encoding.incDe : Sys2Proof.Laws.Encoding.Statement .incDe := ⟨rfl, rfl⟩
theorem Sys2Proof.Laws.Encoding.incD : Sys2Proof.Laws.Encoding.Statement .incD := ⟨rfl, rfl⟩
theorem Sys2Proof.Laws.Encoding.decD : Sys2Proof.Laws.Encoding.Statement .decD := ⟨rfl, rfl⟩
theorem Sys2Proof.Laws.Encoding.ldDD8 (n : Sys2Proof.Byte) : Sys2Proof.Laws.Encoding.Statement (.ldDD8 n) := ⟨rfl, rfl⟩
theorem Sys2Proof.Laws.Encoding.rla : Sys2Proof.Laws.Encoding.Statement .rla := ⟨rfl, rfl⟩
theorem Sys2Proof.Laws.Encoding.jrE8 (e : Sys2Proof.Byte) : Sys2Proof.Laws.Encoding.Statement (.jrE8 e) := ⟨rfl, rfl⟩
theorem Sys2Proof.Laws.Encoding.addHlDe : Sys2Proof.Laws.Encoding.Statement .addHlDe := ⟨rfl, rfl⟩
theorem Sys2Proof.Laws.Encoding.ldAIndDe : Sys2Proof.Laws.Encoding.Statement .ldAIndDe := ⟨rfl, rfl⟩
theorem Sys2Proof.Laws.Encoding.decDe : Sys2Proof.Laws.Encoding.Statement .decDe := ⟨rfl, rfl⟩
theorem Sys2Proof.Laws.Encoding.incE : Sys2Proof.Laws.Encoding.Statement .incE := ⟨rfl, rfl⟩
theorem Sys2Proof.Laws.Encoding.decE : Sys2Proof.Laws.Encoding.Statement .decE := ⟨rfl, rfl⟩
theorem Sys2Proof.Laws.Encoding.ldED8 (n : Sys2Proof.Byte) : Sys2Proof.Laws.Encoding.Statement (.ldED8 n) := ⟨rfl, rfl⟩
theorem Sys2Proof.Laws.Encoding.rra : Sys2Proof.Laws.Encoding.Statement .rra := ⟨rfl, rfl⟩
theorem Sys2Proof.Laws.Encoding.jrNzE8 (e : Sys2Proof.Byte) : Sys2Proof.Laws.Encoding.Statement (.jrNzE8 e) := ⟨rfl, rfl⟩
theorem Sys2Proof.Laws.Encoding.ldHlD16 (nn : Sys2Proof.Word) : Sys2Proof.Laws.Encoding.Statement (.ldHlD16 nn) := ⟨rfl, rfl⟩
theorem Sys2Proof.Laws.Encoding.ldIndHliA : Sys2Proof.Laws.Encoding.Statement .ldIndHliA := ⟨rfl, rfl⟩
theorem Sys2Proof.Laws.Encoding.incHl : Sys2Proof.Laws.Encoding.Statement .incHl := ⟨rfl, rfl⟩
theorem Sys2Proof.Laws.Encoding.incH : Sys2Proof.Laws.Encoding.Statement .incH := ⟨rfl, rfl⟩
theorem Sys2Proof.Laws.Encoding.decH : Sys2Proof.Laws.Encoding.Statement .decH := ⟨rfl, rfl⟩
theorem Sys2Proof.Laws.Encoding.ldHD8 (n : Sys2Proof.Byte) : Sys2Proof.Laws.Encoding.Statement (.ldHD8 n) := ⟨rfl, rfl⟩
theorem Sys2Proof.Laws.Encoding.daa : Sys2Proof.Laws.Encoding.Statement .daa := ⟨rfl, rfl⟩
theorem Sys2Proof.Laws.Encoding.jrZE8 (e : Sys2Proof.Byte) : Sys2Proof.Laws.Encoding.Statement (.jrZE8 e) := ⟨rfl, rfl⟩
theorem Sys2Proof.Laws.Encoding.addHlHl : Sys2Proof.Laws.Encoding.Statement .addHlHl := ⟨rfl, rfl⟩
theorem Sys2Proof.Laws.Encoding.ldAIndHli : Sys2Proof.Laws.Encoding.Statement .ldAIndHli := ⟨rfl, rfl⟩
theorem Sys2Proof.Laws.Encoding.decHl : Sys2Proof.Laws.Encoding.Statement .decHl := ⟨rfl, rfl⟩
theorem Sys2Proof.Laws.Encoding.incL : Sys2Proof.Laws.Encoding.Statement .incL := ⟨rfl, rfl⟩
theorem Sys2Proof.Laws.Encoding.decL : Sys2Proof.Laws.Encoding.Statement .decL := ⟨rfl, rfl⟩
theorem Sys2Proof.Laws.Encoding.ldLD8 (n : Sys2Proof.Byte) : Sys2Proof.Laws.Encoding.Statement (.ldLD8 n) := ⟨rfl, rfl⟩
theorem Sys2Proof.Laws.Encoding.cplA : Sys2Proof.Laws.Encoding.Statement .cplA := ⟨rfl, rfl⟩
theorem Sys2Proof.Laws.Encoding.jrNcE8 (e : Sys2Proof.Byte) : Sys2Proof.Laws.Encoding.Statement (.jrNcE8 e) := ⟨rfl, rfl⟩
theorem Sys2Proof.Laws.Encoding.ldSpD16 (nn : Sys2Proof.Word) : Sys2Proof.Laws.Encoding.Statement (.ldSpD16 nn) := ⟨rfl, rfl⟩
theorem Sys2Proof.Laws.Encoding.ldIndHldA : Sys2Proof.Laws.Encoding.Statement .ldIndHldA := ⟨rfl, rfl⟩
theorem Sys2Proof.Laws.Encoding.incSp : Sys2Proof.Laws.Encoding.Statement .incSp := ⟨rfl, rfl⟩
theorem Sys2Proof.Laws.Encoding.incIndHl : Sys2Proof.Laws.Encoding.Statement .incIndHl := ⟨rfl, rfl⟩
theorem Sys2Proof.Laws.Encoding.decIndHl : Sys2Proof.Laws.Encoding.Statement .decIndHl := ⟨rfl, rfl⟩
theorem Sys2Proof.Laws.Encoding.ldIndHlD8 (n : Sys2Proof.Byte) : Sys2Proof.Laws.Encoding.Statement (.ldIndHlD8 n) := ⟨rfl, rfl⟩
theorem Sys2Proof.Laws.Encoding.scf : Sys2Proof.Laws.Encoding.Statement .scf := ⟨rfl, rfl⟩
theorem Sys2Proof.Laws.Encoding.jrCE8 (e : Sys2Proof.Byte) : Sys2Proof.Laws.Encoding.Statement (.jrCE8 e) := ⟨rfl, rfl⟩
theorem Sys2Proof.Laws.Encoding.addHlSp : Sys2Proof.Laws.Encoding.Statement .addHlSp := ⟨rfl, rfl⟩
theorem Sys2Proof.Laws.Encoding.ldAIndHld : Sys2Proof.Laws.Encoding.Statement .ldAIndHld := ⟨rfl, rfl⟩
theorem Sys2Proof.Laws.Encoding.decSp : Sys2Proof.Laws.Encoding.Statement .decSp := ⟨rfl, rfl⟩
theorem Sys2Proof.Laws.Encoding.incA : Sys2Proof.Laws.Encoding.Statement .incA := ⟨rfl, rfl⟩
theorem Sys2Proof.Laws.Encoding.decA : Sys2Proof.Laws.Encoding.Statement .decA := ⟨rfl, rfl⟩
theorem Sys2Proof.Laws.Encoding.ldAD8 (n : Sys2Proof.Byte) : Sys2Proof.Laws.Encoding.Statement (.ldAD8 n) := ⟨rfl, rfl⟩
theorem Sys2Proof.Laws.Encoding.ccf : Sys2Proof.Laws.Encoding.Statement .ccf := ⟨rfl, rfl⟩
theorem Sys2Proof.Laws.Encoding.retNz : Sys2Proof.Laws.Encoding.Statement .retNz := ⟨rfl, rfl⟩
theorem Sys2Proof.Laws.Encoding.popBc : Sys2Proof.Laws.Encoding.Statement .popBc := ⟨rfl, rfl⟩
theorem Sys2Proof.Laws.Encoding.jpNzA16 (nn : Sys2Proof.Word) : Sys2Proof.Laws.Encoding.Statement (.jpNzA16 nn) := ⟨rfl, rfl⟩
theorem Sys2Proof.Laws.Encoding.jpA16 (nn : Sys2Proof.Word) : Sys2Proof.Laws.Encoding.Statement (.jpA16 nn) := ⟨rfl, rfl⟩
theorem Sys2Proof.Laws.Encoding.callNzA16 (nn : Sys2Proof.Word) : Sys2Proof.Laws.Encoding.Statement (.callNzA16 nn) := ⟨rfl, rfl⟩
theorem Sys2Proof.Laws.Encoding.pushBc : Sys2Proof.Laws.Encoding.Statement .pushBc := ⟨rfl, rfl⟩
theorem Sys2Proof.Laws.Encoding.addAD8 (n : Sys2Proof.Byte) : Sys2Proof.Laws.Encoding.Statement (.addAD8 n) := ⟨rfl, rfl⟩
theorem Sys2Proof.Laws.Encoding.rst00 : Sys2Proof.Laws.Encoding.Statement .rst00 := ⟨rfl, rfl⟩
theorem Sys2Proof.Laws.Encoding.retZ : Sys2Proof.Laws.Encoding.Statement .retZ := ⟨rfl, rfl⟩
theorem Sys2Proof.Laws.Encoding.ret : Sys2Proof.Laws.Encoding.Statement .ret := ⟨rfl, rfl⟩
theorem Sys2Proof.Laws.Encoding.jpZA16 (nn : Sys2Proof.Word) : Sys2Proof.Laws.Encoding.Statement (.jpZA16 nn) := ⟨rfl, rfl⟩
theorem Sys2Proof.Laws.Encoding.callZA16 (nn : Sys2Proof.Word) : Sys2Proof.Laws.Encoding.Statement (.callZA16 nn) := ⟨rfl, rfl⟩
theorem Sys2Proof.Laws.Encoding.callA16 (nn : Sys2Proof.Word) : Sys2Proof.Laws.Encoding.Statement (.callA16 nn) := ⟨rfl, rfl⟩
theorem Sys2Proof.Laws.Encoding.adcAD8 (n : Sys2Proof.Byte) : Sys2Proof.Laws.Encoding.Statement (.adcAD8 n) := ⟨rfl, rfl⟩
theorem Sys2Proof.Laws.Encoding.rst08 : Sys2Proof.Laws.Encoding.Statement .rst08 := ⟨rfl, rfl⟩
theorem Sys2Proof.Laws.Encoding.retNc : Sys2Proof.Laws.Encoding.Statement .retNc := ⟨rfl, rfl⟩
theorem Sys2Proof.Laws.Encoding.popDe : Sys2Proof.Laws.Encoding.Statement .popDe := ⟨rfl, rfl⟩
theorem Sys2Proof.Laws.Encoding.jpNcA16 (nn : Sys2Proof.Word) : Sys2Proof.Laws.Encoding.Statement (.jpNcA16 nn) := ⟨rfl, rfl⟩
theorem Sys2Proof.Laws.Encoding.illegalD3 : Sys2Proof.Laws.Encoding.Statement .illegalD3 := ⟨rfl, rfl⟩
theorem Sys2Proof.Laws.Encoding.callNcA16 (nn : Sys2Proof.Word) : Sys2Proof.Laws.Encoding.Statement (.callNcA16 nn) := ⟨rfl, rfl⟩
theorem Sys2Proof.Laws.Encoding.pushDe : Sys2Proof.Laws.Encoding.Statement .pushDe := ⟨rfl, rfl⟩
theorem Sys2Proof.Laws.Encoding.subD8 (n : Sys2Proof.Byte) : Sys2Proof.Laws.Encoding.Statement (.subD8 n) := ⟨rfl, rfl⟩
theorem Sys2Proof.Laws.Encoding.rst10 : Sys2Proof.Laws.Encoding.Statement .rst10 := ⟨rfl, rfl⟩
theorem Sys2Proof.Laws.Encoding.retC : Sys2Proof.Laws.Encoding.Statement .retC := ⟨rfl, rfl⟩
theorem Sys2Proof.Laws.Encoding.reti : Sys2Proof.Laws.Encoding.Statement .reti := ⟨rfl, rfl⟩
theorem Sys2Proof.Laws.Encoding.jpCA16 (nn : Sys2Proof.Word) : Sys2Proof.Laws.Encoding.Statement (.jpCA16 nn) := ⟨rfl, rfl⟩
theorem Sys2Proof.Laws.Encoding.illegalDB : Sys2Proof.Laws.Encoding.Statement .illegalDB := ⟨rfl, rfl⟩
theorem Sys2Proof.Laws.Encoding.callCA16 (nn : Sys2Proof.Word) : Sys2Proof.Laws.Encoding.Statement (.callCA16 nn) := ⟨rfl, rfl⟩
theorem Sys2Proof.Laws.Encoding.illegalDD : Sys2Proof.Laws.Encoding.Statement .illegalDD := ⟨rfl, rfl⟩
theorem Sys2Proof.Laws.Encoding.sbcAD8 (n : Sys2Proof.Byte) : Sys2Proof.Laws.Encoding.Statement (.sbcAD8 n) := ⟨rfl, rfl⟩
theorem Sys2Proof.Laws.Encoding.rst18 : Sys2Proof.Laws.Encoding.Statement .rst18 := ⟨rfl, rfl⟩
theorem Sys2Proof.Laws.Encoding.ldhIndA8A (n : Sys2Proof.Byte) : Sys2Proof.Laws.Encoding.Statement (.ldhIndA8A n) := ⟨rfl, rfl⟩
theorem Sys2Proof.Laws.Encoding.popHl : Sys2Proof.Laws.Encoding.Statement .popHl := ⟨rfl, rfl⟩
theorem Sys2Proof.Laws.Encoding.ldhIndCA : Sys2Proof.Laws.Encoding.Statement .ldhIndCA := ⟨rfl, rfl⟩
theorem Sys2Proof.Laws.Encoding.illegalE3 : Sys2Proof.Laws.Encoding.Statement .illegalE3 := ⟨rfl, rfl⟩
theorem Sys2Proof.Laws.Encoding.illegalE4 : Sys2Proof.Laws.Encoding.Statement .illegalE4 := ⟨rfl, rfl⟩
theorem Sys2Proof.Laws.Encoding.pushHl : Sys2Proof.Laws.Encoding.Statement .pushHl := ⟨rfl, rfl⟩
theorem Sys2Proof.Laws.Encoding.andD8 (n : Sys2Proof.Byte) : Sys2Proof.Laws.Encoding.Statement (.andD8 n) := ⟨rfl, rfl⟩
theorem Sys2Proof.Laws.Encoding.rst20 : Sys2Proof.Laws.Encoding.Statement .rst20 := ⟨rfl, rfl⟩
theorem Sys2Proof.Laws.Encoding.addSpE8 (e : Sys2Proof.Byte) : Sys2Proof.Laws.Encoding.Statement (.addSpE8 e) := ⟨rfl, rfl⟩
theorem Sys2Proof.Laws.Encoding.jpHl : Sys2Proof.Laws.Encoding.Statement .jpHl := ⟨rfl, rfl⟩
theorem Sys2Proof.Laws.Encoding.ldIndA16A (nn : Sys2Proof.Word) : Sys2Proof.Laws.Encoding.Statement (.ldIndA16A nn) := ⟨rfl, rfl⟩
theorem Sys2Proof.Laws.Encoding.illegalEB : Sys2Proof.Laws.Encoding.Statement .illegalEB := ⟨rfl, rfl⟩
theorem Sys2Proof.Laws.Encoding.illegalEC : Sys2Proof.Laws.Encoding.Statement .illegalEC := ⟨rfl, rfl⟩
theorem Sys2Proof.Laws.Encoding.illegalED : Sys2Proof.Laws.Encoding.Statement .illegalED := ⟨rfl, rfl⟩
theorem Sys2Proof.Laws.Encoding.xorD8 (n : Sys2Proof.Byte) : Sys2Proof.Laws.Encoding.Statement (.xorD8 n) := ⟨rfl, rfl⟩
theorem Sys2Proof.Laws.Encoding.rst28 : Sys2Proof.Laws.Encoding.Statement .rst28 := ⟨rfl, rfl⟩
theorem Sys2Proof.Laws.Encoding.ldhAIndA8 (n : Sys2Proof.Byte) : Sys2Proof.Laws.Encoding.Statement (.ldhAIndA8 n) := ⟨rfl, rfl⟩
theorem Sys2Proof.Laws.Encoding.popAf : Sys2Proof.Laws.Encoding.Statement .popAf := ⟨rfl, rfl⟩
theorem Sys2Proof.Laws.Encoding.ldhAIndC : Sys2Proof.Laws.Encoding.Statement .ldhAIndC := ⟨rfl, rfl⟩
theorem Sys2Proof.Laws.Encoding.di : Sys2Proof.Laws.Encoding.Statement .di := ⟨rfl, rfl⟩
theorem Sys2Proof.Laws.Encoding.illegalF4 : Sys2Proof.Laws.Encoding.Statement .illegalF4 := ⟨rfl, rfl⟩
theorem Sys2Proof.Laws.Encoding.pushAf : Sys2Proof.Laws.Encoding.Statement .pushAf := ⟨rfl, rfl⟩
theorem Sys2Proof.Laws.Encoding.orD8 (n : Sys2Proof.Byte) : Sys2Proof.Laws.Encoding.Statement (.orD8 n) := ⟨rfl, rfl⟩
theorem Sys2Proof.Laws.Encoding.rst30 : Sys2Proof.Laws.Encoding.Statement .rst30 := ⟨rfl, rfl⟩
theorem Sys2Proof.Laws.Encoding.ldHlSpE8 (e : Sys2Proof.Byte) : Sys2Proof.Laws.Encoding.Statement (.ldHlSpE8 e) := ⟨rfl, rfl⟩
theorem Sys2Proof.Laws.Encoding.ldSpHl : Sys2Proof.Laws.Encoding.Statement .ldSpHl := ⟨rfl, rfl⟩
theorem Sys2Proof.Laws.Encoding.ldAIndA16 (nn : Sys2Proof.Word) : Sys2Proof.Laws.Encoding.Statement (.ldAIndA16 nn) := ⟨rfl, rfl⟩
theorem Sys2Proof.Laws.Encoding.ei : Sys2Proof.Laws.Encoding.Statement .ei := ⟨rfl, rfl⟩
theorem Sys2Proof.Laws.Encoding.illegalFC : Sys2Proof.Laws.Encoding.Statement .illegalFC := ⟨rfl, rfl⟩
theorem Sys2Proof.Laws.Encoding.illegalFD : Sys2Proof.Laws.Encoding.Statement .illegalFD := ⟨rfl, rfl⟩
theorem Sys2Proof.Laws.Encoding.cpD8 (n : Sys2Proof.Byte) : Sys2Proof.Laws.Encoding.Statement (.cpD8 n) := ⟨rfl, rfl⟩
theorem Sys2Proof.Laws.Encoding.rst38 : Sys2Proof.Laws.Encoding.Statement .rst38 := ⟨rfl, rfl⟩
theorem Sys2Proof.Laws.Encoding.ldBB : Sys2Proof.Laws.Encoding.Statement .ldBB := ⟨rfl, rfl⟩
theorem Sys2Proof.Laws.Encoding.ldBC : Sys2Proof.Laws.Encoding.Statement .ldBC := ⟨rfl, rfl⟩
theorem Sys2Proof.Laws.Encoding.ldBD : Sys2Proof.Laws.Encoding.Statement .ldBD := ⟨rfl, rfl⟩
theorem Sys2Proof.Laws.Encoding.ldBE : Sys2Proof.Laws.Encoding.Statement .ldBE := ⟨rfl, rfl⟩
theorem Sys2Proof.Laws.Encoding.ldBH : Sys2Proof.Laws.Encoding.Statement .ldBH := ⟨rfl, rfl⟩
theorem Sys2Proof.Laws.Encoding.ldBL : Sys2Proof.Laws.Encoding.Statement .ldBL := ⟨rfl, rfl⟩
theorem Sys2Proof.Laws.Encoding.ldBIndHl : Sys2Proof.Laws.Encoding.Statement .ldBIndHl := ⟨rfl, rfl⟩
theorem Sys2Proof.Laws.Encoding.ldBA : Sys2Proof.Laws.Encoding.Statement .ldBA := ⟨rfl, rfl⟩
theorem Sys2Proof.Laws.Encoding.ldCB : Sys2Proof.Laws.Encoding.Statement .ldCB := ⟨rfl, rfl⟩
theorem Sys2Proof.Laws.Encoding.ldCC : Sys2Proof.Laws.Encoding.Statement .ldCC := ⟨rfl, rfl⟩
theorem Sys2Proof.Laws.Encoding.ldCD : Sys2Proof.Laws.Encoding.Statement .ldCD := ⟨rfl, rfl⟩
theorem Sys2Proof.Laws.Encoding.ldCE : Sys2Proof.Laws.Encoding.Statement .ldCE := ⟨rfl, rfl⟩
theorem Sys2Proof.Laws.Encoding.ldCH : Sys2Proof.Laws.Encoding.Statement .ldCH := ⟨rfl, rfl⟩
theorem Sys2Proof.Laws.Encoding.ldCL : Sys2Proof.Laws.Encoding.Statement .ldCL := ⟨rfl, rfl⟩
theorem Sys2Proof.Laws.Encoding.ldCIndHl : Sys2Proof.Laws.Encoding.Statement .ldCIndHl := ⟨rfl, rfl⟩
theorem Sys2Proof.Laws.Encoding.ldCA : Sys2Proof.Laws.Encoding.Statement .ldCA := ⟨rfl, rfl⟩
theorem Sys2Proof.Laws.Encoding.ldDB : Sys2Proof.Laws.Encoding.Statement .ldDB := ⟨rfl, rfl⟩
theorem Sys2Proof.Laws.Encoding.ldDC : Sys2Proof.Laws.Encoding.Statement .ldDC := ⟨rfl, rfl⟩
theorem Sys2Proof.Laws.Encoding.ldDD : Sys2Proof.Laws.Encoding.Statement .ldDD := ⟨rfl, rfl⟩
theorem Sys2Proof.Laws.Encoding.ldDE : Sys2Proof.Laws.Encoding.Statement .ldDE := ⟨rfl, rfl⟩
theorem Sys2Proof.Laws.Encoding.ldDH : Sys2Proof.Laws.Encoding.Statement .ldDH := ⟨rfl, rfl⟩
theorem Sys2Proof.Laws.Encoding.ldDL : Sys2Proof.Laws.Encoding.Statement .ldDL := ⟨rfl, rfl⟩
theorem Sys2Proof.Laws.Encoding.ldDIndHl : Sys2Proof.Laws.Encoding.Statement .ldDIndHl := ⟨rfl, rfl⟩
theorem Sys2Proof.Laws.Encoding.ldDA : Sys2Proof.Laws.Encoding.Statement .ldDA := ⟨rfl, rfl⟩
theorem Sys2Proof.Laws.Encoding.ldEB : Sys2Proof.Laws.Encoding.Statement .ldEB := ⟨rfl, rfl⟩
theorem Sys2Proof.Laws.Encoding.ldEC : Sys2Proof.Laws.Encoding.Statement .ldEC := ⟨rfl, rfl⟩
theorem Sys2Proof.Laws.Encoding.ldED : Sys2Proof.Laws.Encoding.Statement .ldED := ⟨rfl, rfl⟩
theorem Sys2Proof.Laws.Encoding.ldEE : Sys2Proof.Laws.Encoding.Statement .ldEE := ⟨rfl, rfl⟩
theorem Sys2Proof.Laws.Encoding.ldEH : Sys2Proof.Laws.Encoding.Statement .ldEH := ⟨rfl, rfl⟩
theorem Sys2Proof.Laws.Encoding.ldEL : Sys2Proof.Laws.Encoding.Statement .ldEL := ⟨rfl, rfl⟩
theorem Sys2Proof.Laws.Encoding.ldEIndHl : Sys2Proof.Laws.Encoding.Statement .ldEIndHl := ⟨rfl, rfl⟩
theorem Sys2Proof.Laws.Encoding.ldEA : Sys2Proof.Laws.Encoding.Statement .ldEA := ⟨rfl, rfl⟩
theorem Sys2Proof.Laws.Encoding.ldHB : Sys2Proof.Laws.Encoding.Statement .ldHB := ⟨rfl, rfl⟩
theorem Sys2Proof.Laws.Encoding.ldHC : Sys2Proof.Laws.Encoding.Statement .ldHC := ⟨rfl, rfl⟩
theorem Sys2Proof.Laws.Encoding.ldHD : Sys2Proof.Laws.Encoding.Statement .ldHD := ⟨rfl, rfl⟩
theorem Sys2Proof.Laws.Encoding.ldHE : Sys2Proof.Laws.Encoding.Statement .ldHE := ⟨rfl, rfl⟩
theorem Sys2Proof.Laws.Encoding.ldHH : Sys2Proof.Laws.Encoding.Statement .ldHH := ⟨rfl, rfl⟩
theorem Sys2Proof.Laws.Encoding.ldHL : Sys2Proof.Laws.Encoding.Statement .ldHL := ⟨rfl, rfl⟩
theorem Sys2Proof.Laws.Encoding.ldHIndHl : Sys2Proof.Laws.Encoding.Statement .ldHIndHl := ⟨rfl, rfl⟩
theorem Sys2Proof.Laws.Encoding.ldHA : Sys2Proof.Laws.Encoding.Statement .ldHA := ⟨rfl, rfl⟩
theorem Sys2Proof.Laws.Encoding.ldLB : Sys2Proof.Laws.Encoding.Statement .ldLB := ⟨rfl, rfl⟩
theorem Sys2Proof.Laws.Encoding.ldLC : Sys2Proof.Laws.Encoding.Statement .ldLC := ⟨rfl, rfl⟩
theorem Sys2Proof.Laws.Encoding.ldLD : Sys2Proof.Laws.Encoding.Statement .ldLD := ⟨rfl, rfl⟩
theorem Sys2Proof.Laws.Encoding.ldLE : Sys2Proof.Laws.Encoding.Statement .ldLE := ⟨rfl, rfl⟩
theorem Sys2Proof.Laws.Encoding.ldLH : Sys2Proof.Laws.Encoding.Statement .ldLH := ⟨rfl, rfl⟩
theorem Sys2Proof.Laws.Encoding.ldLL : Sys2Proof.Laws.Encoding.Statement .ldLL := ⟨rfl, rfl⟩
theorem Sys2Proof.Laws.Encoding.ldLIndHl : Sys2Proof.Laws.Encoding.Statement .ldLIndHl := ⟨rfl, rfl⟩
theorem Sys2Proof.Laws.Encoding.ldLA : Sys2Proof.Laws.Encoding.Statement .ldLA := ⟨rfl, rfl⟩
theorem Sys2Proof.Laws.Encoding.ldIndHlB : Sys2Proof.Laws.Encoding.Statement .ldIndHlB := ⟨rfl, rfl⟩
theorem Sys2Proof.Laws.Encoding.ldIndHlC : Sys2Proof.Laws.Encoding.Statement .ldIndHlC := ⟨rfl, rfl⟩
theorem Sys2Proof.Laws.Encoding.ldIndHlD : Sys2Proof.Laws.Encoding.Statement .ldIndHlD := ⟨rfl, rfl⟩
theorem Sys2Proof.Laws.Encoding.ldIndHlE : Sys2Proof.Laws.Encoding.Statement .ldIndHlE := ⟨rfl, rfl⟩
theorem Sys2Proof.Laws.Encoding.ldIndHlH : Sys2Proof.Laws.Encoding.Statement .ldIndHlH := ⟨rfl, rfl⟩
theorem Sys2Proof.Laws.Encoding.ldIndHlL : Sys2Proof.Laws.Encoding.Statement .ldIndHlL := ⟨rfl, rfl⟩
theorem Sys2Proof.Laws.Encoding.halt : Sys2Proof.Laws.Encoding.Statement .halt := ⟨rfl, rfl⟩
theorem Sys2Proof.Laws.Encoding.ldIndHlA : Sys2Proof.Laws.Encoding.Statement .ldIndHlA := ⟨rfl, rfl⟩
theorem Sys2Proof.Laws.Encoding.ldAB : Sys2Proof.Laws.Encoding.Statement .ldAB := ⟨rfl, rfl⟩
theorem Sys2Proof.Laws.Encoding.ldAC : Sys2Proof.Laws.Encoding.Statement .ldAC := ⟨rfl, rfl⟩
theorem Sys2Proof.Laws.Encoding.ldAD : Sys2Proof.Laws.Encoding.Statement .ldAD := ⟨rfl, rfl⟩
theorem Sys2Proof.Laws.Encoding.ldAE : Sys2Proof.Laws.Encoding.Statement .ldAE := ⟨rfl, rfl⟩
theorem Sys2Proof.Laws.Encoding.ldAH : Sys2Proof.Laws.Encoding.Statement .ldAH := ⟨rfl, rfl⟩
theorem Sys2Proof.Laws.Encoding.ldAL : Sys2Proof.Laws.Encoding.Statement .ldAL := ⟨rfl, rfl⟩
theorem Sys2Proof.Laws.Encoding.ldAIndHl : Sys2Proof.Laws.Encoding.Statement .ldAIndHl := ⟨rfl, rfl⟩
theorem Sys2Proof.Laws.Encoding.ldAA : Sys2Proof.Laws.Encoding.Statement .ldAA := ⟨rfl, rfl⟩
theorem Sys2Proof.Laws.Encoding.addAB : Sys2Proof.Laws.Encoding.Statement .addAB := ⟨rfl, rfl⟩
theorem Sys2Proof.Laws.Encoding.addAC : Sys2Proof.Laws.Encoding.Statement .addAC := ⟨rfl, rfl⟩
theorem Sys2Proof.Laws.Encoding.addAD : Sys2Proof.Laws.Encoding.Statement .addAD := ⟨rfl, rfl⟩
theorem Sys2Proof.Laws.Encoding.addAE : Sys2Proof.Laws.Encoding.Statement .addAE := ⟨rfl, rfl⟩
theorem Sys2Proof.Laws.Encoding.addAH : Sys2Proof.Laws.Encoding.Statement .addAH := ⟨rfl, rfl⟩
theorem Sys2Proof.Laws.Encoding.addAL : Sys2Proof.Laws.Encoding.Statement .addAL := ⟨rfl, rfl⟩
theorem Sys2Proof.Laws.Encoding.addAIndHl : Sys2Proof.Laws.Encoding.Statement .addAIndHl := ⟨rfl, rfl⟩
theorem Sys2Proof.Laws.Encoding.addAA : Sys2Proof.Laws.Encoding.Statement .addAA := ⟨rfl, rfl⟩
theorem Sys2Proof.Laws.Encoding.adcAB : Sys2Proof.Laws.Encoding.Statement .adcAB := ⟨rfl, rfl⟩
theorem Sys2Proof.Laws.Encoding.adcAC : Sys2Proof.Laws.Encoding.Statement .adcAC := ⟨rfl, rfl⟩
theorem Sys2Proof.Laws.Encoding.adcAD : Sys2Proof.Laws.Encoding.Statement .adcAD := ⟨rfl, rfl⟩
theorem Sys2Proof.Laws.Encoding.adcAE : Sys2Proof.Laws.Encoding.Statement .adcAE := ⟨rfl, rfl⟩
theorem Sys2Proof.Laws.Encoding.adcAH : Sys2Proof.Laws.Encoding.Statement .adcAH := ⟨rfl, rfl⟩
theorem Sys2Proof.Laws.Encoding.adcAL : Sys2Proof.Laws.Encoding.Statement .adcAL := ⟨rfl, rfl⟩
theorem Sys2Proof.Laws.Encoding.adcAIndHl : Sys2Proof.Laws.Encoding.Statement .adcAIndHl := ⟨rfl, rfl⟩
theorem Sys2Proof.Laws.Encoding.adcAA : Sys2Proof.Laws.Encoding.Statement .adcAA := ⟨rfl, rfl⟩
theorem Sys2Proof.Laws.Encoding.subB : Sys2Proof.Laws.Encoding.Statement .subB := ⟨rfl, rfl⟩
theorem Sys2Proof.Laws.Encoding.subC : Sys2Proof.Laws.Encoding.Statement .subC := ⟨rfl, rfl⟩
theorem Sys2Proof.Laws.Encoding.subD : Sys2Proof.Laws.Encoding.Statement .subD := ⟨rfl, rfl⟩
theorem Sys2Proof.Laws.Encoding.subE : Sys2Proof.Laws.Encoding.Statement .subE := ⟨rfl, rfl⟩
theorem Sys2Proof.Laws.Encoding.subH : Sys2Proof.Laws.Encoding.Statement .subH := ⟨rfl, rfl⟩
theorem Sys2Proof.Laws.Encoding.subL : Sys2Proof.Laws.Encoding.Statement .subL := ⟨rfl, rfl⟩
theorem Sys2Proof.Laws.Encoding.subIndHl : Sys2Proof.Laws.Encoding.Statement .subIndHl := ⟨rfl, rfl⟩
theorem Sys2Proof.Laws.Encoding.subA : Sys2Proof.Laws.Encoding.Statement .subA := ⟨rfl, rfl⟩
theorem Sys2Proof.Laws.Encoding.sbcAB : Sys2Proof.Laws.Encoding.Statement .sbcAB := ⟨rfl, rfl⟩
theorem Sys2Proof.Laws.Encoding.sbcAC : Sys2Proof.Laws.Encoding.Statement .sbcAC := ⟨rfl, rfl⟩
theorem Sys2Proof.Laws.Encoding.sbcAD : Sys2Proof.Laws.Encoding.Statement .sbcAD := ⟨rfl, rfl⟩
theorem Sys2Proof.Laws.Encoding.sbcAE : Sys2Proof.Laws.Encoding.Statement .sbcAE := ⟨rfl, rfl⟩
theorem Sys2Proof.Laws.Encoding.sbcAH : Sys2Proof.Laws.Encoding.Statement .sbcAH := ⟨rfl, rfl⟩
theorem Sys2Proof.Laws.Encoding.sbcAL : Sys2Proof.Laws.Encoding.Statement .sbcAL := ⟨rfl, rfl⟩
theorem Sys2Proof.Laws.Encoding.sbcAIndHl : Sys2Proof.Laws.Encoding.Statement .sbcAIndHl := ⟨rfl, rfl⟩
theorem Sys2Proof.Laws.Encoding.sbcAA : Sys2Proof.Laws.Encoding.Statement .sbcAA := ⟨rfl, rfl⟩
theorem Sys2Proof.Laws.Encoding.andB : Sys2Proof.Laws.Encoding.Statement .andB := ⟨rfl, rfl⟩
theorem Sys2Proof.Laws.Encoding.andC : Sys2Proof.Laws.Encoding.Statement .andC := ⟨rfl, rfl⟩
theorem Sys2Proof.Laws.Encoding.andD : Sys2Proof.Laws.Encoding.Statement .andD := ⟨rfl, rfl⟩
theorem Sys2Proof.Laws.Encoding.andE : Sys2Proof.Laws.Encoding.Statement .andE := ⟨rfl, rfl⟩
theorem Sys2Proof.Laws.Encoding.andH : Sys2Proof.Laws.Encoding.Statement .andH := ⟨rfl, rfl⟩
theorem Sys2Proof.Laws.Encoding.andL : Sys2Proof.Laws.Encoding.Statement .andL := ⟨rfl, rfl⟩
theorem Sys2Proof.Laws.Encoding.andIndHl : Sys2Proof.Laws.Encoding.Statement .andIndHl := ⟨rfl, rfl⟩
theorem Sys2Proof.Laws.Encoding.andA : Sys2Proof.Laws.Encoding.Statement .andA := ⟨rfl, rfl⟩
theorem Sys2Proof.Laws.Encoding.xorB : Sys2Proof.Laws.Encoding.Statement .xorB := ⟨rfl, rfl⟩
theorem Sys2Proof.Laws.Encoding.xorC : Sys2Proof.Laws.Encoding.Statement .xorC := ⟨rfl, rfl⟩
theorem Sys2Proof.Laws.Encoding.xorD : Sys2Proof.Laws.Encoding.Statement .xorD := ⟨rfl, rfl⟩
theorem Sys2Proof.Laws.Encoding.xorE : Sys2Proof.Laws.Encoding.Statement .xorE := ⟨rfl, rfl⟩
theorem Sys2Proof.Laws.Encoding.xorH : Sys2Proof.Laws.Encoding.Statement .xorH := ⟨rfl, rfl⟩
theorem Sys2Proof.Laws.Encoding.xorL : Sys2Proof.Laws.Encoding.Statement .xorL := ⟨rfl, rfl⟩
theorem Sys2Proof.Laws.Encoding.xorIndHl : Sys2Proof.Laws.Encoding.Statement .xorIndHl := ⟨rfl, rfl⟩
theorem Sys2Proof.Laws.Encoding.xorA : Sys2Proof.Laws.Encoding.Statement .xorA := ⟨rfl, rfl⟩
theorem Sys2Proof.Laws.Encoding.orB : Sys2Proof.Laws.Encoding.Statement .orB := ⟨rfl, rfl⟩
theorem Sys2Proof.Laws.Encoding.orC : Sys2Proof.Laws.Encoding.Statement .orC := ⟨rfl, rfl⟩
theorem Sys2Proof.Laws.Encoding.orD : Sys2Proof.Laws.Encoding.Statement .orD := ⟨rfl, rfl⟩
theorem Sys2Proof.Laws.Encoding.orE : Sys2Proof.Laws.Encoding.Statement .orE := ⟨rfl, rfl⟩
theorem Sys2Proof.Laws.Encoding.orH : Sys2Proof.Laws.Encoding.Statement .orH := ⟨rfl, rfl⟩
theorem Sys2Proof.Laws.Encoding.orL : Sys2Proof.Laws.Encoding.Statement .orL := ⟨rfl, rfl⟩
theorem Sys2Proof.Laws.Encoding.orIndHl : Sys2Proof.Laws.Encoding.Statement .orIndHl := ⟨rfl, rfl⟩
theorem Sys2Proof.Laws.Encoding.orA : Sys2Proof.Laws.Encoding.Statement .orA := ⟨rfl, rfl⟩
theorem Sys2Proof.Laws.Encoding.cpB : Sys2Proof.Laws.Encoding.Statement .cpB := ⟨rfl, rfl⟩
theorem Sys2Proof.Laws.Encoding.cpC : Sys2Proof.Laws.Encoding.Statement .cpC := ⟨rfl, rfl⟩
theorem Sys2Proof.Laws.Encoding.cpD : Sys2Proof.Laws.Encoding.Statement .cpD := ⟨rfl, rfl⟩
theorem Sys2Proof.Laws.Encoding.cpE : Sys2Proof.Laws.Encoding.Statement .cpE := ⟨rfl, rfl⟩
theorem Sys2Proof.Laws.Encoding.cpH : Sys2Proof.Laws.Encoding.Statement .cpH := ⟨rfl, rfl⟩
theorem Sys2Proof.Laws.Encoding.cpL : Sys2Proof.Laws.Encoding.Statement .cpL := ⟨rfl, rfl⟩
theorem Sys2Proof.Laws.Encoding.cpIndHl : Sys2Proof.Laws.Encoding.Statement .cpIndHl := ⟨rfl, rfl⟩
theorem Sys2Proof.Laws.Encoding.cpA : Sys2Proof.Laws.Encoding.Statement .cpA := ⟨rfl, rfl⟩
theorem Sys2Proof.Laws.Encoding.cbRlcB : Sys2Proof.Laws.Encoding.Statement .cbRlcB := ⟨rfl, rfl⟩
theorem Sys2Proof.Laws.Encoding.cbRlcC : Sys2Proof.Laws.Encoding.Statement .cbRlcC := ⟨rfl, rfl⟩
theorem Sys2Proof.Laws.Encoding.cbRlcD : Sys2Proof.Laws.Encoding.Statement .cbRlcD := ⟨rfl, rfl⟩
theorem Sys2Proof.Laws.Encoding.cbRlcE : Sys2Proof.Laws.Encoding.Statement .cbRlcE := ⟨rfl, rfl⟩
theorem Sys2Proof.Laws.Encoding.cbRlcH : Sys2Proof.Laws.Encoding.Statement .cbRlcH := ⟨rfl, rfl⟩
theorem Sys2Proof.Laws.Encoding.cbRlcL : Sys2Proof.Laws.Encoding.Statement .cbRlcL := ⟨rfl, rfl⟩
theorem Sys2Proof.Laws.Encoding.cbRlcIndHl : Sys2Proof.Laws.Encoding.Statement .cbRlcIndHl := ⟨rfl, rfl⟩
theorem Sys2Proof.Laws.Encoding.cbRlcA : Sys2Proof.Laws.Encoding.Statement .cbRlcA := ⟨rfl, rfl⟩
theorem Sys2Proof.Laws.Encoding.cbRrcB : Sys2Proof.Laws.Encoding.Statement .cbRrcB := ⟨rfl, rfl⟩
theorem Sys2Proof.Laws.Encoding.cbRrcC : Sys2Proof.Laws.Encoding.Statement .cbRrcC := ⟨rfl, rfl⟩
theorem Sys2Proof.Laws.Encoding.cbRrcD : Sys2Proof.Laws.Encoding.Statement .cbRrcD := ⟨rfl, rfl⟩
theorem Sys2Proof.Laws.Encoding.cbRrcE : Sys2Proof.Laws.Encoding.Statement .cbRrcE := ⟨rfl, rfl⟩
theorem Sys2Proof.Laws.Encoding.cbRrcH : Sys2Proof.Laws.Encoding.Statement .cbRrcH := ⟨rfl, rfl⟩
theorem Sys2Proof.Laws.Encoding.cbRrcL : Sys2Proof.Laws.Encoding.Statement .cbRrcL := ⟨rfl, rfl⟩
theorem Sys2Proof.Laws.Encoding.cbRrcIndHl : Sys2Proof.Laws.Encoding.Statement .cbRrcIndHl := ⟨rfl, rfl⟩
theorem Sys2Proof.Laws.Encoding.cbRrcA : Sys2Proof.Laws.Encoding.Statement .cbRrcA := ⟨rfl, rfl⟩
theorem Sys2Proof.Laws.Encoding.cbRlB : Sys2Proof.Laws.Encoding.Statement .cbRlB := ⟨rfl, rfl⟩
theorem Sys2Proof.Laws.Encoding.cbRlC : Sys2Proof.Laws.Encoding.Statement .cbRlC := ⟨rfl, rfl⟩
theorem Sys2Proof.Laws.Encoding.cbRlD : Sys2Proof.Laws.Encoding.Statement .cbRlD := ⟨rfl, rfl⟩
theorem Sys2Proof.Laws.Encoding.cbRlE : Sys2Proof.Laws.Encoding.Statement .cbRlE := ⟨rfl, rfl⟩
theorem Sys2Proof.Laws.Encoding.cbRlH : Sys2Proof.Laws.Encoding.Statement .cbRlH := ⟨rfl, rfl⟩
theorem Sys2Proof.Laws.Encoding.cbRlL : Sys2Proof.Laws.Encoding.Statement .cbRlL := ⟨rfl, rfl⟩
theorem Sys2Proof.Laws.Encoding.cbRlIndHl : Sys2Proof.Laws.Encoding.Statement .cbRlIndHl := ⟨rfl, rfl⟩
theorem Sys2Proof.Laws.Encoding.cbRlA : Sys2Proof.Laws.Encoding.Statement .cbRlA := ⟨rfl, rfl⟩
theorem Sys2Proof.Laws.Encoding.cbRrB : Sys2Proof.Laws.Encoding.Statement .cbRrB := ⟨rfl, rfl⟩
theorem Sys2Proof.Laws.Encoding.cbRrC : Sys2Proof.Laws.Encoding.Statement .cbRrC := ⟨rfl, rfl⟩
theorem Sys2Proof.Laws.Encoding.cbRrD : Sys2Proof.Laws.Encoding.Statement .cbRrD := ⟨rfl, rfl⟩
theorem Sys2Proof.Laws.Encoding.cbRrE : Sys2Proof.Laws.Encoding.Statement .cbRrE := ⟨rfl, rfl⟩
theorem Sys2Proof.Laws.Encoding.cbRrH : Sys2Proof.Laws.Encoding.Statement .cbRrH := ⟨rfl, rfl⟩
theorem Sys2Proof.Laws.Encoding.cbRrL : Sys2Proof.Laws.Encoding.Statement .cbRrL := ⟨rfl, rfl⟩
theorem Sys2Proof.Laws.Encoding.cbRrIndHl : Sys2Proof.Laws.Encoding.Statement .cbRrIndHl := ⟨rfl, rfl⟩
theorem Sys2Proof.Laws.Encoding.cbRrA : Sys2Proof.Laws.Encoding.Statement .cbRrA := ⟨rfl, rfl⟩
theorem Sys2Proof.Laws.Encoding.cbSlaB : Sys2Proof.Laws.Encoding.Statement .cbSlaB := ⟨rfl, rfl⟩
theorem Sys2Proof.Laws.Encoding.cbSlaC : Sys2Proof.Laws.Encoding.Statement .cbSlaC := ⟨rfl, rfl⟩
theorem Sys2Proof.Laws.Encoding.cbSlaD : Sys2Proof.Laws.Encoding.Statement .cbSlaD := ⟨rfl, rfl⟩
theorem Sys2Proof.Laws.Encoding.cbSlaE : Sys2Proof.Laws.Encoding.Statement .cbSlaE := ⟨rfl, rfl⟩
theorem Sys2Proof.Laws.Encoding.cbSlaH : Sys2Proof.Laws.Encoding.Statement .cbSlaH := ⟨rfl, rfl⟩
theorem Sys2Proof.Laws.Encoding.cbSlaL : Sys2Proof.Laws.Encoding.Statement .cbSlaL := ⟨rfl, rfl⟩
theorem Sys2Proof.Laws.Encoding.cbSlaIndHl : Sys2Proof.Laws.Encoding.Statement .cbSlaIndHl := ⟨rfl, rfl⟩
theorem Sys2Proof.Laws.Encoding.cbSlaA : Sys2Proof.Laws.Encoding.Statement .cbSlaA := ⟨rfl, rfl⟩
theorem Sys2Proof.Laws.Encoding.cbSraB : Sys2Proof.Laws.Encoding.Statement .cbSraB := ⟨rfl, rfl⟩
theorem Sys2Proof.Laws.Encoding.cbSraC : Sys2Proof.Laws.Encoding.Statement .cbSraC := ⟨rfl, rfl⟩
theorem Sys2Proof.Laws.Encoding.cbSraD : Sys2Proof.Laws.Encoding.Statement .cbSraD := ⟨rfl, rfl⟩
theorem Sys2Proof.Laws.Encoding.cbSraE : Sys2Proof.Laws.Encoding.Statement .cbSraE := ⟨rfl, rfl⟩
theorem Sys2Proof.Laws.Encoding.cbSraH : Sys2Proof.Laws.Encoding.Statement .cbSraH := ⟨rfl, rfl⟩
theorem Sys2Proof.Laws.Encoding.cbSraL : Sys2Proof.Laws.Encoding.Statement .cbSraL := ⟨rfl, rfl⟩
theorem Sys2Proof.Laws.Encoding.cbSraIndHl : Sys2Proof.Laws.Encoding.Statement .cbSraIndHl := ⟨rfl, rfl⟩
theorem Sys2Proof.Laws.Encoding.cbSraA : Sys2Proof.Laws.Encoding.Statement .cbSraA := ⟨rfl, rfl⟩
theorem Sys2Proof.Laws.Encoding.cbSwapB : Sys2Proof.Laws.Encoding.Statement .cbSwapB := ⟨rfl, rfl⟩
theorem Sys2Proof.Laws.Encoding.cbSwapC : Sys2Proof.Laws.Encoding.Statement .cbSwapC := ⟨rfl, rfl⟩
theorem Sys2Proof.Laws.Encoding.cbSwapD : Sys2Proof.Laws.Encoding.Statement .cbSwapD := ⟨rfl, rfl⟩
theorem Sys2Proof.Laws.Encoding.cbSwapE : Sys2Proof.Laws.Encoding.Statement .cbSwapE := ⟨rfl, rfl⟩
theorem Sys2Proof.Laws.Encoding.cbSwapH : Sys2Proof.Laws.Encoding.Statement .cbSwapH := ⟨rfl, rfl⟩
theorem Sys2Proof.Laws.Encoding.cbSwapL : Sys2Proof.Laws.Encoding.Statement .cbSwapL := ⟨rfl, rfl⟩
theorem Sys2Proof.Laws.Encoding.cbSwapIndHl : Sys2Proof.Laws.Encoding.Statement .cbSwapIndHl := ⟨rfl, rfl⟩
theorem Sys2Proof.Laws.Encoding.cbSwapA : Sys2Proof.Laws.Encoding.Statement .cbSwapA := ⟨rfl, rfl⟩
theorem Sys2Proof.Laws.Encoding.cbSrlB : Sys2Proof.Laws.Encoding.Statement .cbSrlB := ⟨rfl, rfl⟩
theorem Sys2Proof.Laws.Encoding.cbSrlC : Sys2Proof.Laws.Encoding.Statement .cbSrlC := ⟨rfl, rfl⟩
theorem Sys2Proof.Laws.Encoding.cbSrlD : Sys2Proof.Laws.Encoding.Statement .cbSrlD := ⟨rfl, rfl⟩
theorem Sys2Proof.Laws.Encoding.cbSrlE : Sys2Proof.Laws.Encoding.Statement .cbSrlE := ⟨rfl, rfl⟩
theorem Sys2Proof.Laws.Encoding.cbSrlH : Sys2Proof.Laws.Encoding.Statement .cbSrlH := ⟨rfl, rfl⟩
theorem Sys2Proof.Laws.Encoding.cbSrlL : Sys2Proof.Laws.Encoding.Statement .cbSrlL := ⟨rfl, rfl⟩
theorem Sys2Proof.Laws.Encoding.cbSrlIndHl : Sys2Proof.Laws.Encoding.Statement .cbSrlIndHl := ⟨rfl, rfl⟩
theorem Sys2Proof.Laws.Encoding.cbSrlA : Sys2Proof.Laws.Encoding.Statement .cbSrlA := ⟨rfl, rfl⟩
theorem Sys2Proof.Laws.Encoding.cbBit0B : Sys2Proof.Laws.Encoding.Statement .cbBit0B := ⟨rfl, rfl⟩
theorem Sys2Proof.Laws.Encoding.cbBit0C : Sys2Proof.Laws.Encoding.Statement .cbBit0C := ⟨rfl, rfl⟩
theorem Sys2Proof.Laws.Encoding.cbBit0D : Sys2Proof.Laws.Encoding.Statement .cbBit0D := ⟨rfl, rfl⟩
theorem Sys2Proof.Laws.Encoding.cbBit0E : Sys2Proof.Laws.Encoding.Statement .cbBit0E := ⟨rfl, rfl⟩
theorem Sys2Proof.Laws.Encoding.cbBit0H : Sys2Proof.Laws.Encoding.Statement .cbBit0H := ⟨rfl, rfl⟩
theorem Sys2Proof.Laws.Encoding.cbBit0L : Sys2Proof.Laws.Encoding.Statement .cbBit0L := ⟨rfl, rfl⟩
theorem Sys2Proof.Laws.Encoding.cbBit0IndHl : Sys2Proof.Laws.Encoding.Statement .cbBit0IndHl := ⟨rfl, rfl⟩
theorem Sys2Proof.Laws.Encoding.cbBit0A : Sys2Proof.Laws.Encoding.Statement .cbBit0A := ⟨rfl, rfl⟩
theorem Sys2Proof.Laws.Encoding.cbBit1B : Sys2Proof.Laws.Encoding.Statement .cbBit1B := ⟨rfl, rfl⟩
theorem Sys2Proof.Laws.Encoding.cbBit1C : Sys2Proof.Laws.Encoding.Statement .cbBit1C := ⟨rfl, rfl⟩
theorem Sys2Proof.Laws.Encoding.cbBit1D : Sys2Proof.Laws.Encoding.Statement .cbBit1D := ⟨rfl, rfl⟩
theorem Sys2Proof.Laws.Encoding.cbBit1E : Sys2Proof.Laws.Encoding.Statement .cbBit1E := ⟨rfl, rfl⟩
theorem Sys2Proof.Laws.Encoding.cbBit1H : Sys2Proof.Laws.Encoding.Statement .cbBit1H := ⟨rfl, rfl⟩
theorem Sys2Proof.Laws.Encoding.cbBit1L : Sys2Proof.Laws.Encoding.Statement .cbBit1L := ⟨rfl, rfl⟩
theorem Sys2Proof.Laws.Encoding.cbBit1IndHl : Sys2Proof.Laws.Encoding.Statement .cbBit1IndHl := ⟨rfl, rfl⟩
theorem Sys2Proof.Laws.Encoding.cbBit1A : Sys2Proof.Laws.Encoding.Statement .cbBit1A := ⟨rfl, rfl⟩
theorem Sys2Proof.Laws.Encoding.cbBit2B : Sys2Proof.Laws.Encoding.Statement .cbBit2B := ⟨rfl, rfl⟩
theorem Sys2Proof.Laws.Encoding.cbBit2C : Sys2Proof.Laws.Encoding.Statement .cbBit2C := ⟨rfl, rfl⟩
theorem Sys2Proof.Laws.Encoding.cbBit2D : Sys2Proof.Laws.Encoding.Statement .cbBit2D := ⟨rfl, rfl⟩
theorem Sys2Proof.Laws.Encoding.cbBit2E : Sys2Proof.Laws.Encoding.Statement .cbBit2E := ⟨rfl, rfl⟩
theorem Sys2Proof.Laws.Encoding.cbBit2H : Sys2Proof.Laws.Encoding.Statement .cbBit2H := ⟨rfl, rfl⟩
theorem Sys2Proof.Laws.Encoding.cbBit2L : Sys2Proof.Laws.Encoding.Statement .cbBit2L := ⟨rfl, rfl⟩
theorem Sys2Proof.Laws.Encoding.cbBit2IndHl : Sys2Proof.Laws.Encoding.Statement .cbBit2IndHl := ⟨rfl, rfl⟩
theorem Sys2Proof.Laws.Encoding.cbBit2A : Sys2Proof.Laws.Encoding.Statement .cbBit2A := ⟨rfl, rfl⟩
theorem Sys2Proof.Laws.Encoding.cbBit3B : Sys2Proof.Laws.Encoding.Statement .cbBit3B := ⟨rfl, rfl⟩
theorem Sys2Proof.Laws.Encoding.cbBit3C : Sys2Proof.Laws.Encoding.Statement .cbBit3C := ⟨rfl, rfl⟩
theorem Sys2Proof.Laws.Encoding.cbBit3D : Sys2Proof.Laws.Encoding.Statement .cbBit3D := ⟨rfl, rfl⟩
theorem Sys2Proof.Laws.Encoding.cbBit3E : Sys2Proof.Laws.Encoding.Statement .cbBit3E := ⟨rfl, rfl⟩
theorem Sys2Proof.Laws.Encoding.cbBit3H : Sys2Proof.Laws.Encoding.Statement .cbBit3H := ⟨rfl, rfl⟩
theorem Sys2Proof.Laws.Encoding.cbBit3L : Sys2Proof.Laws.Encoding.Statement .cbBit3L := ⟨rfl, rfl⟩
theorem Sys2Proof.Laws.Encoding.cbBit3IndHl : Sys2Proof.Laws.Encoding.Statement .cbBit3IndHl := ⟨rfl, rfl⟩
theorem Sys2Proof.Laws.Encoding.cbBit3A : Sys2Proof.Laws.Encoding.Statement .cbBit3A := ⟨rfl, rfl⟩
theorem Sys2Proof.Laws.Encoding.cbBit4B : Sys2Proof.Laws.Encoding.Statement .cbBit4B := ⟨rfl, rfl⟩
theorem Sys2Proof.Laws.Encoding.cbBit4C : Sys2Proof.Laws.Encoding.Statement .cbBit4C := ⟨rfl, rfl⟩
theorem Sys2Proof.Laws.Encoding.cbBit4D : Sys2Proof.Laws.Encoding.Statement .cbBit4D := ⟨rfl, rfl⟩
theorem Sys2Proof.Laws.Encoding.cbBit4E : Sys2Proof.Laws.Encoding.Statement .cbBit4E := ⟨rfl, rfl⟩
theorem Sys2Proof.Laws.Encoding.cbBit4H : Sys2Proof.Laws.Encoding.Statement .cbBit4H := ⟨rfl, rfl⟩
theorem Sys2Proof.Laws.Encoding.cbBit4L : Sys2Proof.Laws.Encoding.Statement .cbBit4L := ⟨rfl, rfl⟩
theorem Sys2Proof.Laws.Encoding.cbBit4IndHl : Sys2Proof.Laws.Encoding.Statement .cbBit4IndHl := ⟨rfl, rfl⟩
theorem Sys2Proof.Laws.Encoding.cbBit4A : Sys2Proof.Laws.Encoding.Statement .cbBit4A := ⟨rfl, rfl⟩
theorem Sys2Proof.Laws.Encoding.cbBit5B : Sys2Proof.Laws.Encoding.Statement .cbBit5B := ⟨rfl, rfl⟩
theorem Sys2Proof.Laws.Encoding.cbBit5C : Sys2Proof.Laws.Encoding.Statement .cbBit5C := ⟨rfl, rfl⟩
theorem Sys2Proof.Laws.Encoding.cbBit5D : Sys2Proof.Laws.Encoding.Statement .cbBit5D := ⟨rfl, rfl⟩
theorem Sys2Proof.Laws.Encoding.cbBit5E : Sys2Proof.Laws.Encoding.Statement .cbBit5E := ⟨rfl, rfl⟩
theorem Sys2Proof.Laws.Encoding.cbBit5H : Sys2Proof.Laws.Encoding.Statement .cbBit5H := ⟨rfl, rfl⟩
theorem Sys2Proof.Laws.Encoding.cbBit5L : Sys2Proof.Laws.Encoding.Statement .cbBit5L := ⟨rfl, rfl⟩
theorem Sys2Proof.Laws.Encoding.cbBit5IndHl : Sys2Proof.Laws.Encoding.Statement .cbBit5IndHl := ⟨rfl, rfl⟩
theorem Sys2Proof.Laws.Encoding.cbBit5A : Sys2Proof.Laws.Encoding.Statement .cbBit5A := ⟨rfl, rfl⟩
theorem Sys2Proof.Laws.Encoding.cbBit6B : Sys2Proof.Laws.Encoding.Statement .cbBit6B := ⟨rfl, rfl⟩
theorem Sys2Proof.Laws.Encoding.cbBit6C : Sys2Proof.Laws.Encoding.Statement .cbBit6C := ⟨rfl, rfl⟩
theorem Sys2Proof.Laws.Encoding.cbBit6D : Sys2Proof.Laws.Encoding.Statement .cbBit6D := ⟨rfl, rfl⟩
theorem Sys2Proof.Laws.Encoding.cbBit6E : Sys2Proof.Laws.Encoding.Statement .cbBit6E := ⟨rfl, rfl⟩
theorem Sys2Proof.Laws.Encoding.cbBit6H : Sys2Proof.Laws.Encoding.Statement .cbBit6H := ⟨rfl, rfl⟩
theorem Sys2Proof.Laws.Encoding.cbBit6L : Sys2Proof.Laws.Encoding.Statement .cbBit6L := ⟨rfl, rfl⟩
theorem Sys2Proof.Laws.Encoding.cbBit6IndHl : Sys2Proof.Laws.Encoding.Statement .cbBit6IndHl := ⟨rfl, rfl⟩
theorem Sys2Proof.Laws.Encoding.cbBit6A : Sys2Proof.Laws.Encoding.Statement .cbBit6A := ⟨rfl, rfl⟩
theorem Sys2Proof.Laws.Encoding.cbBit7B : Sys2Proof.Laws.Encoding.Statement .cbBit7B := ⟨rfl, rfl⟩
theorem Sys2Proof.Laws.Encoding.cbBit7C : Sys2Proof.Laws.Encoding.Statement .cbBit7C := ⟨rfl, rfl⟩
theorem Sys2Proof.Laws.Encoding.cbBit7D : Sys2Proof.Laws.Encoding.Statement .cbBit7D := ⟨rfl, rfl⟩
theorem Sys2Proof.Laws.Encoding.cbBit7E : Sys2Proof.Laws.Encoding.Statement .cbBit7E := ⟨rfl, rfl⟩
theorem Sys2Proof.Laws.Encoding.cbBit7H : Sys2Proof.Laws.Encoding.Statement .cbBit7H := ⟨rfl, rfl⟩
theorem Sys2Proof.Laws.Encoding.cbBit7L : Sys2Proof.Laws.Encoding.Statement .cbBit7L := ⟨rfl, rfl⟩
theorem Sys2Proof.Laws.Encoding.cbBit7IndHl : Sys2Proof.Laws.Encoding.Statement .cbBit7IndHl := ⟨rfl, rfl⟩
theorem Sys2Proof.Laws.Encoding.cbBit7A : Sys2Proof.Laws.Encoding.Statement .cbBit7A := ⟨rfl, rfl⟩
theorem Sys2Proof.Laws.Encoding.cbRes0B : Sys2Proof.Laws.Encoding.Statement .cbRes0B := ⟨rfl, rfl⟩
theorem Sys2Proof.Laws.Encoding.cbRes0C : Sys2Proof.Laws.Encoding.Statement .cbRes0C := ⟨rfl, rfl⟩
theorem Sys2Proof.Laws.Encoding.cbRes0D : Sys2Proof.Laws.Encoding.Statement .cbRes0D := ⟨rfl, rfl⟩
theorem Sys2Proof.Laws.Encoding.cbRes0E : Sys2Proof.Laws.Encoding.Statement .cbRes0E := ⟨rfl, rfl⟩
theorem Sys2Proof.Laws.Encoding.cbRes0H : Sys2Proof.Laws.Encoding.Statement .cbRes0H := ⟨rfl, rfl⟩
theorem Sys2Proof.Laws.Encoding.cbRes0L : Sys2Proof.Laws.Encoding.Statement .cbRes0L := ⟨rfl, rfl⟩
theorem Sys2Proof.Laws.Encoding.cbRes0IndHl : Sys2Proof.Laws.Encoding.Statement .cbRes0IndHl := ⟨rfl, rfl⟩
theorem Sys2Proof.Laws.Encoding.cbRes0A : Sys2Proof.Laws.Encoding.Statement .cbRes0A := ⟨rfl, rfl⟩
theorem Sys2Proof.Laws.Encoding.cbRes1B : Sys2Proof.Laws.Encoding.Statement .cbRes1B := ⟨rfl, rfl⟩
theorem Sys2Proof.Laws.Encoding.cbRes1C : Sys2Proof.Laws.Encoding.Statement .cbRes1C := ⟨rfl, rfl⟩
theorem Sys2Proof.Laws.Encoding.cbRes1D : Sys2Proof.Laws.Encoding.Statement .cbRes1D := ⟨rfl, rfl⟩
theorem Sys2Proof.Laws.Encoding.cbRes1E : Sys2Proof.Laws.Encoding.Statement .cbRes1E := ⟨rfl, rfl⟩
theorem Sys2Proof.Laws.Encoding.cbRes1H : Sys2Proof.Laws.Encoding.Statement .cbRes1H := ⟨rfl, rfl⟩
theorem Sys2Proof.Laws.Encoding.cbRes1L : Sys2Proof.Laws.Encoding.Statement .cbRes1L := ⟨rfl, rfl⟩
theorem Sys2Proof.Laws.Encoding.cbRes1IndHl : Sys2Proof.Laws.Encoding.Statement .cbRes1IndHl := ⟨rfl, rfl⟩
theorem Sys2Proof.Laws.Encoding.cbRes1A : Sys2Proof.Laws.Encoding.Statement .cbRes1A := ⟨rfl, rfl⟩
theorem Sys2Proof.Laws.Encoding.cbRes2B : Sys2Proof.Laws.Encoding.Statement .cbRes2B := ⟨rfl, rfl⟩
theorem Sys2Proof.Laws.Encoding.cbRes2C : Sys2Proof.Laws.Encoding.Statement .cbRes2C := ⟨rfl, rfl⟩
theorem Sys2Proof.Laws.Encoding.cbRes2D : Sys2Proof.Laws.Encoding.Statement .cbRes2D := ⟨rfl, rfl⟩
theorem Sys2Proof.Laws.Encoding.cbRes2E : Sys2Proof.Laws.Encoding.Statement .cbRes2E := ⟨rfl, rfl⟩
theorem Sys2Proof.Laws.Encoding.cbRes2H : Sys2Proof.Laws.Encoding.Statement .cbRes2H := ⟨rfl, rfl⟩
theorem Sys2Proof.Laws.Encoding.cbRes2L : Sys2Proof.Laws.Encoding.Statement .cbRes2L := ⟨rfl, rfl⟩
theorem Sys2Proof.Laws.Encoding.cbRes2IndHl : Sys2Proof.Laws.Encoding.Statement .cbRes2IndHl := ⟨rfl, rfl⟩
theorem Sys2Proof.Laws.Encoding.cbRes2A : Sys2Proof.Laws.Encoding.Statement .cbRes2A := ⟨rfl, rfl⟩
theorem Sys2Proof.Laws.Encoding.cbRes3B : Sys2Proof.Laws.Encoding.Statement .cbRes3B := ⟨rfl, rfl⟩
theorem Sys2Proof.Laws.Encoding.cbRes3C : Sys2Proof.Laws.Encoding.Statement .cbRes3C := ⟨rfl, rfl⟩
theorem Sys2Proof.Laws.Encoding.cbRes3D : Sys2Proof.Laws.Encoding.Statement .cbRes3D := ⟨rfl, rfl⟩
theorem Sys2Proof.Laws.Encoding.cbRes3E : Sys2Proof.Laws.Encoding.Statement .cbRes3E := ⟨rfl, rfl⟩
theorem Sys2Proof.Laws.Encoding.cbRes3H : Sys2Proof.Laws.Encoding.Statement .cbRes3H := ⟨rfl, rfl⟩
theorem Sys2Proof.Laws.Encoding.cbRes3L : Sys2Proof.Laws.Encoding.Statement .cbRes3L := ⟨rfl, rfl⟩
theorem Sys2Proof.Laws.Encoding.cbRes3IndHl : Sys2Proof.Laws.Encoding.Statement .cbRes3IndHl := ⟨rfl, rfl⟩
theorem Sys2Proof.Laws.Encoding.cbRes3A : Sys2Proof.Laws.Encoding.Statement .cbRes3A := ⟨rfl, rfl⟩
theorem Sys2Proof.Laws.Encoding.cbRes4B : Sys2Proof.Laws.Encoding.Statement .cbRes4B := ⟨rfl, rfl⟩
theorem Sys2Proof.Laws.Encoding.cbRes4C : Sys2Proof.Laws.Encoding.Statement .cbRes4C := ⟨rfl, rfl⟩
theorem Sys2Proof.Laws.Encoding.cbRes4D : Sys2Proof.Laws.Encoding.Statement .cbRes4D := ⟨rfl, rfl⟩
theorem Sys2Proof.Laws.Encoding.cbRes4E : Sys2Proof.Laws.Encoding.Statement .cbRes4E := ⟨rfl, rfl⟩
theorem Sys2Proof.Laws.Encoding.cbRes4H : Sys2Proof.Laws.Encoding.Statement .cbRes4H := ⟨rfl, rfl⟩
theorem Sys2Proof.Laws.Encoding.cbRes4L : Sys2Proof.Laws.Encoding.Statement .cbRes4L := ⟨rfl, rfl⟩
theorem Sys2Proof.Laws.Encoding.cbRes4IndHl : Sys2Proof.Laws.Encoding.Statement .cbRes4IndHl := ⟨rfl, rfl⟩
theorem Sys2Proof.Laws.Encoding.cbRes4A : Sys2Proof.Laws.Encoding.Statement .cbRes4A := ⟨rfl, rfl⟩
theorem Sys2Proof.Laws.Encoding.cbRes5B : Sys2Proof.Laws.Encoding.Statement .cbRes5B := ⟨rfl, rfl⟩
theorem Sys2Proof.Laws.Encoding.cbRes5C : Sys2Proof.Laws.Encoding.Statement .cbRes5C := ⟨rfl, rfl⟩
theorem Sys2Proof.Laws.Encoding.cbRes5D : Sys2Proof.Laws.Encoding.Statement .cbRes5D := ⟨rfl, rfl⟩
theorem Sys2Proof.Laws.Encoding.cbRes5E : Sys2Proof.Laws.Encoding.Statement .cbRes5E := ⟨rfl, rfl⟩
theorem Sys2Proof.Laws.Encoding.cbRes5H : Sys2Proof.Laws.Encoding.Statement .cbRes5H := ⟨rfl, rfl⟩
theorem Sys2Proof.Laws.Encoding.cbRes5L : Sys2Proof.Laws.Encoding.Statement .cbRes5L := ⟨rfl, rfl⟩
theorem Sys2Proof.Laws.Encoding.cbRes5IndHl : Sys2Proof.Laws.Encoding.Statement .cbRes5IndHl := ⟨rfl, rfl⟩
theorem Sys2Proof.Laws.Encoding.cbRes5A : Sys2Proof.Laws.Encoding.Statement .cbRes5A := ⟨rfl, rfl⟩
theorem Sys2Proof.Laws.Encoding.cbRes6B : Sys2Proof.Laws.Encoding.Statement .cbRes6B := ⟨rfl, rfl⟩
theorem Sys2Proof.Laws.Encoding.cbRes6C : Sys2Proof.Laws.Encoding.Statement .cbRes6C := ⟨rfl, rfl⟩
theorem Sys2Proof.Laws.Encoding.cbRes6D : Sys2Proof.Laws.Encoding.Statement .cbRes6D := ⟨rfl, rfl⟩
theorem Sys2Proof.Laws.Encoding.cbRes6E : Sys2Proof.Laws.Encoding.Statement .cbRes6E := ⟨rfl, rfl⟩
theorem Sys2Proof.Laws.Encoding.cbRes6H : Sys2Proof.Laws.Encoding.Statement .cbRes6H := ⟨rfl, rfl⟩
theorem Sys2Proof.Laws.Encoding.cbRes6L : Sys2Proof.Laws.Encoding.Statement .cbRes6L := ⟨rfl, rfl⟩
theorem Sys2Proof.Laws.Encoding.cbRes6IndHl : Sys2Proof.Laws.Encoding.Statement .cbRes6IndHl := ⟨rfl, rfl⟩
theorem Sys2Proof.Laws.Encoding.cbRes6A : Sys2Proof.Laws.Encoding.Statement .cbRes6A := ⟨rfl, rfl⟩
theorem Sys2Proof.Laws.Encoding.cbRes7B : Sys2Proof.Laws.Encoding.Statement .cbRes7B := ⟨rfl, rfl⟩
theorem Sys2Proof.Laws.Encoding.cbRes7C : Sys2Proof.Laws.Encoding.Statement .cbRes7C := ⟨rfl, rfl⟩
theorem Sys2Proof.Laws.Encoding.cbRes7D : Sys2Proof.Laws.Encoding.Statement .cbRes7D := ⟨rfl, rfl⟩
theorem Sys2Proof.Laws.Encoding.cbRes7E : Sys2Proof.Laws.Encoding.Statement .cbRes7E := ⟨rfl, rfl⟩
theorem Sys2Proof.Laws.Encoding.cbRes7H : Sys2Proof.Laws.Encoding.Statement .cbRes7H := ⟨rfl, rfl⟩
theorem Sys2Proof.Laws.Encoding.cbRes7L : Sys2Proof.Laws.Encoding.Statement .cbRes7L := ⟨rfl, rfl⟩
theorem Sys2Proof.Laws.Encoding.cbRes7IndHl : Sys2Proof.Laws.Encoding.Statement .cbRes7IndHl := ⟨rfl, rfl⟩
theorem Sys2Proof.Laws.Encoding.cbRes7A : Sys2Proof.Laws.Encoding.Statement .cbRes7A := ⟨rfl, rfl⟩
theorem Sys2Proof.Laws.Encoding.cbSet0B : Sys2Proof.Laws.Encoding.Statement .cbSet0B := ⟨rfl, rfl⟩
theorem Sys2Proof.Laws.Encoding.cbSet0C : Sys2Proof.Laws.Encoding.Statement .cbSet0C := ⟨rfl, rfl⟩
theorem Sys2Proof.Laws.Encoding.cbSet0D : Sys2Proof.Laws.Encoding.Statement .cbSet0D := ⟨rfl, rfl⟩
theorem Sys2Proof.Laws.Encoding.cbSet0E : Sys2Proof.Laws.Encoding.Statement .cbSet0E := ⟨rfl, rfl⟩
theorem Sys2Proof.Laws.Encoding.cbSet0H : Sys2Proof.Laws.Encoding.Statement .cbSet0H := ⟨rfl, rfl⟩
theorem Sys2Proof.Laws.Encoding.cbSet0L : Sys2Proof.Laws.Encoding.Statement .cbSet0L := ⟨rfl, rfl⟩
theorem Sys2Proof.Laws.Encoding.cbSet0IndHl : Sys2Proof.Laws.Encoding.Statement .cbSet0IndHl := ⟨rfl, rfl⟩
theorem Sys2Proof.Laws.Encoding.cbSet0A : Sys2Proof.Laws.Encoding.Statement .cbSet0A := ⟨rfl, rfl⟩
theorem Sys2Proof.Laws.Encoding.cbSet1B : Sys2Proof.Laws.Encoding.Statement .cbSet1B := ⟨rfl, rfl⟩
theorem Sys2Proof.Laws.Encoding.cbSet1C : Sys2Proof.Laws.Encoding.Statement .cbSet1C := ⟨rfl, rfl⟩
theorem Sys2Proof.Laws.Encoding.cbSet1D : Sys2Proof.Laws.Encoding.Statement .cbSet1D := ⟨rfl, rfl⟩
theorem Sys2Proof.Laws.Encoding.cbSet1E : Sys2Proof.Laws.Encoding.Statement .cbSet1E := ⟨rfl, rfl⟩
theorem Sys2Proof.Laws.Encoding.cbSet1H : Sys2Proof.Laws.Encoding.Statement .cbSet1H := ⟨rfl, rfl⟩
theorem Sys2Proof.Laws.Encoding.cbSet1L : Sys2Proof.Laws.Encoding.Statement .cbSet1L := ⟨rfl, rfl⟩
theorem Sys2Proof.Laws.Encoding.cbSet1IndHl : Sys2Proof.Laws.Encoding.Statement .cbSet1IndHl := ⟨rfl, rfl⟩
theorem Sys2Proof.Laws.Encoding.cbSet1A : Sys2Proof.Laws.Encoding.Statement .cbSet1A := ⟨rfl, rfl⟩
theorem Sys2Proof.Laws.Encoding.cbSet2B : Sys2Proof.Laws.Encoding.Statement .cbSet2B := ⟨rfl, rfl⟩
theorem Sys2Proof.Laws.Encoding.cbSet2C : Sys2Proof.Laws.Encoding.Statement .cbSet2C := ⟨rfl, rfl⟩
theorem Sys2Proof.Laws.Encoding.cbSet2D : Sys2Proof.Laws.Encoding.Statement .cbSet2D := ⟨rfl, rfl⟩
theorem Sys2Proof.Laws.Encoding.cbSet2E : Sys2Proof.Laws.Encoding.Statement .cbSet2E := ⟨rfl, rfl⟩
theorem Sys2Proof.Laws.Encoding.cbSet2H : Sys2Proof.Laws.Encoding.Statement .cbSet2H := ⟨rfl, rfl⟩
theorem Sys2Proof.Laws.Encoding.cbSet2L : Sys2Proof.Laws.Encoding.Statement .cbSet2L := ⟨rfl, rfl⟩
theorem Sys2Proof.Laws.Encoding.cbSet2IndHl : Sys2Proof.Laws.Encoding.Statement .cbSet2IndHl := ⟨rfl, rfl⟩
theorem Sys2Proof.Laws.Encoding.cbSet2A : Sys2Proof.Laws.Encoding.Statement .cbSet2A := ⟨rfl, rfl⟩
theorem Sys2Proof.Laws.Encoding.cbSet3B : Sys2Proof.Laws.Encoding.Statement .cbSet3B := ⟨rfl, rfl⟩
theorem Sys2Proof.Laws.Encoding.cbSet3C : Sys2Proof.Laws.Encoding.Statement .cbSet3C := ⟨rfl, rfl⟩
theorem Sys2Proof.Laws.Encoding.cbSet3D : Sys2Proof.Laws.Encoding.Statement .cbSet3D := ⟨rfl, rfl⟩
theorem Sys2Proof.Laws.Encoding.cbSet3E : Sys2Proof.Laws.Encoding.Statement .cbSet3E := ⟨rfl, rfl⟩
theorem Sys2Proof.Laws.Encoding.cbSet3H : Sys2Proof.Laws.Encoding.Statement .cbSet3H := ⟨rfl, rfl⟩
theorem Sys2Proof.Laws.Encoding.cbSet3L : Sys2Proof.Laws.Encoding.Statement .cbSet3L := ⟨rfl, rfl⟩
theorem Sys2Proof.Laws.Encoding.cbSet3IndHl : Sys2Proof.Laws.Encoding.Statement .cbSet3IndHl := ⟨rfl, rfl⟩
theorem Sys2Proof.Laws.Encoding.cbSet3A : Sys2Proof.Laws.Encoding.Statement .cbSet3A := ⟨rfl, rfl⟩
theorem Sys2Proof.Laws.Encoding.cbSet4B : Sys2Proof.Laws.Encoding.Statement .cbSet4B := ⟨rfl, rfl⟩
theorem Sys2Proof.Laws.Encoding.cbSet4C : Sys2Proof.Laws.Encoding.Statement .cbSet4C := ⟨rfl, rfl⟩
theorem Sys2Proof.Laws.Encoding.cbSet4D : Sys2Proof.Laws.Encoding.Statement .cbSet4D := ⟨rfl, rfl⟩
theorem Sys2Proof.Laws.Encoding.cbSet4E : Sys2Proof.Laws.Encoding.Statement .cbSet4E := ⟨rfl, rfl⟩
theorem Sys2Proof.Laws.Encoding.cbSet4H : Sys2Proof.Laws.Encoding.Statement .cbSet4H := ⟨rfl, rfl⟩
theorem Sys2Proof.Laws.Encoding.cbSet4L : Sys2Proof.Laws.Encoding.Statement .cbSet4L := ⟨rfl, rfl⟩
theorem Sys2Proof.Laws.Encoding.cbSet4IndHl : Sys2Proof.Laws.Encoding.Statement .cbSet4IndHl := ⟨rfl, rfl⟩
theorem Sys2Proof.Laws.Encoding.cbSet4A : Sys2Proof.Laws.Encoding.Statement .cbSet4A := ⟨rfl, rfl⟩
theorem Sys2Proof.Laws.Encoding.cbSet5B : Sys2Proof.Laws.Encoding.Statement .cbSet5B := ⟨rfl, rfl⟩
theorem Sys2Proof.Laws.Encoding.cbSet5C : Sys2Proof.Laws.Encoding.Statement .cbSet5C := ⟨rfl, rfl⟩
theorem Sys2Proof.Laws.Encoding.cbSet5D : Sys2Proof.Laws.Encoding.Statement .cbSet5D := ⟨rfl, rfl⟩
theorem Sys2Proof.Laws.Encoding.cbSet5E : Sys2Proof.Laws.Encoding.Statement .cbSet5E := ⟨rfl, rfl⟩
theorem Sys2Proof.Laws.Encoding.cbSet5H : Sys2Proof.Laws.Encoding.Statement .cbSet5H := ⟨rfl, rfl⟩
theorem Sys2Proof.Laws.Encoding.cbSet5L : Sys2Proof.Laws.Encoding.Statement .cbSet5L := ⟨rfl, rfl⟩
theorem Sys2Proof.Laws.Encoding.cbSet5IndHl : Sys2Proof.Laws.Encoding.Statement .cbSet5IndHl := ⟨rfl, rfl⟩
theorem Sys2Proof.Laws.Encoding.cbSet5A : Sys2Proof.Laws.Encoding.Statement .cbSet5A := ⟨rfl, rfl⟩
theorem Sys2Proof.Laws.Encoding.cbSet6B : Sys2Proof.Laws.Encoding.Statement .cbSet6B := ⟨rfl, rfl⟩
theorem Sys2Proof.Laws.Encoding.cbSet6C : Sys2Proof.Laws.Encoding.Statement .cbSet6C := ⟨rfl, rfl⟩
theorem Sys2Proof.Laws.Encoding.cbSet6D : Sys2Proof.Laws.Encoding.Statement .cbSet6D := ⟨rfl, rfl⟩
theorem Sys2Proof.Laws.Encoding.cbSet6E : Sys2Proof.Laws.Encoding.Statement .cbSet6E := ⟨rfl, rfl⟩
theorem Sys2Proof.Laws.Encoding.cbSet6H : Sys2Proof.Laws.Encoding.Statement .cbSet6H := ⟨rfl, rfl⟩
theorem Sys2Proof.Laws.Encoding.cbSet6L : Sys2Proof.Laws.Encoding.Statement .cbSet6L := ⟨rfl, rfl⟩
theorem Sys2Proof.Laws.Encoding.cbSet6IndHl : Sys2Proof.Laws.Encoding.Statement .cbSet6IndHl := ⟨rfl, rfl⟩
theorem Sys2Proof.Laws.Encoding.cbSet6A : Sys2Proof.Laws.Encoding.Statement .cbSet6A := ⟨rfl, rfl⟩
theorem Sys2Proof.Laws.Encoding.cbSet7B : Sys2Proof.Laws.Encoding.Statement .cbSet7B := ⟨rfl, rfl⟩
theorem Sys2Proof.Laws.Encoding.cbSet7C : Sys2Proof.Laws.Encoding.Statement .cbSet7C := ⟨rfl, rfl⟩
theorem Sys2Proof.Laws.Encoding.cbSet7D : Sys2Proof.Laws.Encoding.Statement .cbSet7D := ⟨rfl, rfl⟩
theorem Sys2Proof.Laws.Encoding.cbSet7E : Sys2Proof.Laws.Encoding.Statement .cbSet7E := ⟨rfl, rfl⟩
theorem Sys2Proof.Laws.Encoding.cbSet7H : Sys2Proof.Laws.Encoding.Statement .cbSet7H := ⟨rfl, rfl⟩
theorem Sys2Proof.Laws.Encoding.cbSet7L : Sys2Proof.Laws.Encoding.Statement .cbSet7L := ⟨rfl, rfl⟩
theorem Sys2Proof.Laws.Encoding.cbSet7IndHl : Sys2Proof.Laws.Encoding.Statement .cbSet7IndHl := ⟨rfl, rfl⟩
theorem Sys2Proof.Laws.Encoding.cbSet7A : Sys2Proof.Laws.Encoding.Statement .cbSet7A := ⟨rfl, rfl⟩
end

