-- ==== Sys2Proof/Laws/Places.lean ====
section
/-! SUPPORT. Which addresses a region holds, which places addresses name, and that a store keeps the memory's form. -/

namespace Sys2Proof.Machine

/-- The addresses of each region (20_memory.md R200). -/
def Region.range : Region → Nat × Nat
  | .rom0 => (0x0000, 0x3FFF)
  | .romX => (0x4000, 0x7FFF)
  | .vram => (0x8000, 0x9FFF)
  | .extRam => (0xA000, 0xBFFF)
  | .wram => (0xC000, 0xDFFF)
  | .echo => (0xE000, 0xFDFF)
  | .oam => (0xFE00, 0xFE9F)
  | .unused => (0xFEA0, 0xFEFF)
  | .io => (0xFF00, 0xFF7F)
  | .hram => (0xFF80, 0xFFFE)
  | .ie => (0xFFFF, 0xFFFF)

theorem region_range (a : Word) : (region a).range.1 ≤ a.toNat ∧ a.toNat ≤ (region a).range.2 := by
  have h := a.isLt
  unfold region
  split_ifs <;> simp only [Region.range] <;> omega

theorem State.extRamOn_size (s : State) (h : s.extRamOn = true) : 0 < s.launch.cart.ramSize := by
  simp only [State.extRamOn, Bool.and_eq_true, bne_iff_ne, ne_eq] at h
  omega

theorem placeOk_extRam (n i : Nat) (h : i < n) : placeOk n (extRamPlace i) = true := by
  simp [placeOk, extRamPlace, h]

/-- Every place an address names exists. -/
theorem State.place_ok (s : State) (a : Word) (p : Nat) (h : s.place a = some p) :
    placeOk s.launch.cart.ramSize p = true := by
  have r := region_range a
  have hx := s.extRamOn_size
  unfold State.place at h
  cases hr : region a <;> simp only [hr, Region.range] at h r
  all_goals first
    | (simp only [reduceCtorEq] at h; done)
    | (simp only [Option.some.injEq] at h; rw [← h]; simp only [placeOk, Bool.or_eq_true, Bool.and_eq_true, decide_eq_true_eq]; omega)
    | skip
  split at h
  · rename_i he
    simp only [Option.some.injEq] at h
    rw [← h]
    exact placeOk_extRam _ _ (Nat.mod_lt _ (hx he))
  · exact absurd h (by simp)

/-- A store to an existing place keeps the memory's form. -/
theorem State.store_memOk (s : State) (p : Nat) (v : Byte) (h : s.memOk = true)
    (hp : placeOk s.launch.cart.ramSize p = true) : (s.store p v).memOk = true := by
  simp only [State.memOk, Bool.and_eq_true] at *
  exact ⟨Memory.wf_write _ _ _ h.1, Memory.within_write _ _ _ _ hp h.2⟩

/-- So does an OAM DMA. -/
theorem State.oamDmaByte_memOk (page : Byte) (s : State) (k : Nat) (hk : k < 160) (h : s.memOk = true) :
    (State.oamDmaByte page s k).memOk = true := by
  unfold State.oamDmaByte
  split <;> refine State.store_memOk _ _ _ h ?_ <;> simp [placeOk] <;> omega

end Sys2Proof.Machine
end

