-- ==== Sys2Proof/Laws/Render.lean ====
section
/-! SUPPORT. Rendering as arithmetic: a tile's and a map's pixel, the background, which objects a line selects, and which one wins. -/

namespace Sys2Proof.Machine

/-! ## Pixels -/

theorem getLsbD_toNat (v : Byte) (k : Nat) : (v.getLsbD k).toNat = v.toNat / 2 ^ k % 2 := by
  rw [BitVec.getLsbD, Nat.testBit_eq_decide_div_mod_eq]
  rcases Nat.mod_two_eq_zero_or_one (v.toNat / 2 ^ k) with h | h <;> simp [h]

theorem colourIndex_toNat (low high : Byte) (c : Nat) :
    (colourIndex low high c).toNat = high.toNat / 2 ^ (7 - c) % 2 * 2 + low.toNat / 2 ^ (7 - c) % 2 := by
  rw [← getLsbD_toNat, ← getLsbD_toNat]
  unfold colourIndex
  cases high.getLsbD (7 - c) <;> cases low.getLsbD (7 - c) <;> rfl

theorem State.colourIndex_tile (s : State) (base row col : Nat) :
    (colourIndex (s.vramByte (base + 2 * row)) (s.vramByte (base + 2 * row + 1)) col).toNat = s.tileColour base row col := by
  rw [colourIndex_toNat]
  unfold State.tileColour State.vramByte
  rw [← Nat.add_assoc, ← Nat.add_assoc]

theorem State.mapPixel_toNat (s : State) (m px py : Nat) : (s.mapPixel m px py).toNat = s.mapColour m px py := by
  unfold State.mapPixel State.mapColour
  dsimp only
  rw [s.colourIndex_tile]
  unfold State.vramByte tileOffset
  rw [← Nat.add_assoc, ← Nat.add_assoc]

theorem shade_toNat (p : Byte) (k : BitVec 2) : (shade p k).toNat = paletteShade p k.toNat := by
  unfold shade paletteShade
  rw [BitVec.extractLsb'_toNat, Nat.shiftRight_eq_div_pow, Nat.pow_mul]

theorem State.windowCovers_iff (s : State) (y x : Nat) :
    windowCovers s.ppu y x = true ↔ s.windowOn y ∧ s.ppu.wx.toNat ≤ x + 7 := by
  unfold windowCovers State.windowOn
  simp [and_assoc]

/-- The background index is the one the rules give (R1112, R1113). -/
theorem State.bgIndex_isBackColour (s : State) (y x : Nat) : s.isBackColour y x (s.bgIndex y x).toNat := by
  refine ⟨fun h => ?_, fun h k => ?_, fun h k => ?_⟩
  · unfold State.bgIndex; rw [if_pos (by rw [h]; rfl)]; rfl
  · unfold State.bgIndex
    rw [if_neg (by rw [h]; decide), if_neg (fun c => k ((s.windowCovers_iff y x).1 c)), s.mapPixel_toNat]; rfl
  · unfold State.bgIndex
    rw [if_neg (by rw [h.1]; decide), if_pos ((s.windowCovers_iff y x).2 ⟨h, k⟩), s.mapPixel_toNat]; rfl

/-! ## Objects -/

theorem State.object_onLine (s : State) (y i : Nat) :
    (s.object i).onLine (objHeight s.ppu) y = s.entryOnLine y i := by
  unfold Obj.onLine State.entryOnLine
  rw [show (s.object i).y = s.oamField i 0 from rfl, show objHeight s.ppu = s.objRows from rfl]
  simp

theorem State.objPixel_toNat (s : State) (y x i : Nat) (h : s.entryOnLine y i = true) :
    (s.objPixel (s.object i) y x).toNat = s.entryColour y x i := by
  have odd : ∀ t : Byte, (t ||| 0x01).toNat = t.toNat / 2 * 2 + 1 := by decide
  have even : ∀ t : Byte, (t &&& 0xFE).toNat = t.toNat / 2 * 2 := by decide
  unfold State.entryOnLine at h
  simp only [decide_eq_true_eq] at h
  unfold State.objPixel State.entryColour
  dsimp only
  rw [s.colourIndex_tile, show (s.object i).y = s.oamField i 0 from rfl, show (s.object i).x = s.oamField i 1 from rfl,
    show (s.object i).tile = s.oamField i 2 from rfl, show (s.object i).attr = s.oamField i 3 from rfl,
    show objHeight s.ppu = s.objRows from rfl]
  generalize hr : (if (s.oamField i 3).getLsbD 6 = true then s.objRows - 1 - (y + 16 - (s.oamField i 0).toNat)
    else y + 16 - (s.oamField i 0).toNat) = r
  have hlt : r < s.objRows := by rw [← hr]; split <;> omega
  congr 2
  by_cases h16 : s.objRows = 16
  · rw [if_pos h16, if_pos h16]
    split
    · rw [odd]; omega
    · rw [even]; omega
  · rw [if_neg h16, if_neg h16]

/-- The first `n` numbers below `m` that pass a test: those that pass it with fewer than `n` before them. -/
theorem mem_take_filter_range (p : Nat → Bool) (n m i : Nat) : i ∈ ((List.range m).filter p).take n ↔
    i < m ∧ p i = true ∧ ((List.range i).filter p).length < n := by
  induction m with
  | zero => simp
  | succ m ih =>
    have last : i ∈ (List.filter p [m]).take (n - ((List.range m).filter p).length) ↔
        i = m ∧ p m = true ∧ ((List.range m).filter p).length < n := by
      cases hp : p m
      · simp [hp]
      · rw [List.filter_cons, if_pos hp, List.filter_nil]
        rcases Nat.lt_or_ge ((List.range m).filter p).length n with h | h
        · obtain ⟨k, hk⟩ : ∃ k, n - ((List.range m).filter p).length = k + 1 :=
            ⟨n - ((List.range m).filter p).length - 1, by omega⟩
          rw [hk]; simp [h]
        · rw [show n - ((List.range m).filter p).length = 0 by omega]; simp; omega
    rw [List.range_succ, List.filter_append, List.take_append, List.mem_append, ih, last]
    constructor
    · rintro (⟨a, b, c⟩ | ⟨rfl, b, c⟩)
      · exact ⟨by omega, b, c⟩
      · exact ⟨by omega, b, c⟩
    · rintro ⟨a, b, c⟩
      rcases Nat.lt_or_ge i m with h | h
      · exact .inl ⟨h, b, c⟩
      · obtain rfl : i = m := by omega
        exact .inr ⟨rfl, b, c⟩

/-- The line's objects by OAM index (R1116 a). -/
theorem State.lineObjects_eq (s : State) (y : Nat) : s.lineObjects y =
    (((List.range 40).filter (s.entryOnLine y)).take s.launch.params.spritesPerLine).map s.object := by
  unfold State.lineObjects
  rw [List.filter_map, List.map_take]
  congr 3
  funext i
  exact s.object_onLine y i

theorem bestObject_none (l : List Obj) : bestObject l = none ↔ l = [] := by
  cases l with
  | nil => simp [bestObject]
  | cons o l =>
    simp only [bestObject, reduceCtorEq, iff_false]
    split
    · simp
    · split <;> simp

/-- Among objects at rising indices the best has the smallest X, and of equal X the lowest index (R1116 c). -/
theorem bestObject_some (f : Nat → Obj) (l : List Nat) (h : l.Pairwise (· < ·)) (o : Obj) (ho : bestObject (l.map f) = some o) :
    ∃ i ∈ l, o = f i ∧ ∀ j ∈ l, (f i).x.toNat < (f j).x.toNat ∨ (f i).x.toNat = (f j).x.toNat ∧ i ≤ j := by
  induction l generalizing o with
  | nil => cases ho
  | cons a l ih =>
    rw [List.pairwise_cons] at h
    simp only [List.map_cons, bestObject] at ho
    split at ho
    · rename_i hn
      rw [bestObject_none, List.map_eq_nil_iff] at hn
      subst hn
      cases ho
      exact ⟨a, by simp, rfl, fun j hj => by simp at hj; subst hj; exact .inr ⟨rfl, Nat.le_refl _⟩⟩
    · rename_i p hp
      obtain ⟨i, hi, rfl, hw⟩ := ih h.2 p hp
      split at ho <;> cases ho
      · refine ⟨i, by simp [hi], rfl, fun j hj => ?_⟩
        rcases List.mem_cons.1 hj with rfl | hj
        · exact .inl ‹_›
        · exact hw j hj
      · refine ⟨a, by simp, rfl, fun j hj => ?_⟩
        rcases List.mem_cons.1 hj with rfl | hj
        · exact .inr ⟨rfl, Nat.le_refl _⟩
        · have := hw j hj
          have := h.1 j hj
          omega

end Sys2Proof.Machine
end

