-- ==== Sys2Proof/Laws/Step.lean ====
section
/-! SUPPORT. Everything one step can do: the fetch, the dispatch, the instruction, the devices. -/

namespace Sys2Proof.Machine

/-! ## The fetch -/

@[simp] theorem State.afterOpcode_run (s : State) : s.afterOpcode.cpu.run = s.cpu.run := by simp [State.afterOpcode]
@[simp] theorem State.afterOpcode_cycles (s : State) : s.afterOpcode.cycles = s.cycles := by simp [State.afterOpcode]

/-- The fetch changes PC, the latch, the opcode's address and the draws, nothing else. -/
theorem State.afterFetch_eq (s : State) : ∃ pc d, s.afterFetch =
    { s with cpu := { s.cpu with pc := pc, haltBug := false, opAddr := s.cpu.pc }, draws := d } := by
  obtain ⟨d, hd⟩ := s.afterRead_eq s.cpu.pc
  have h1 : ∃ pc d, s.afterOpcode = { s with cpu := { s.cpu with pc := pc, haltBug := false, opAddr := s.cpu.pc }, draws := d } :=
    ⟨if s.cpu.haltBug then s.cpu.pc else s.cpu.pc + 1, d, by simp only [State.afterOpcode, hd]⟩
  have h2 : ∀ u : State, (∃ pc d, u = { s with cpu := { s.cpu with pc := pc, haltBug := false, opAddr := s.cpu.pc }, draws := d }) →
      ∃ pc d, u.afterFetch8 = { s with cpu := { s.cpu with pc := pc, haltBug := false, opAddr := s.cpu.pc }, draws := d } := by
    rintro u ⟨pc, d, rfl⟩
    obtain ⟨e, he⟩ := State.afterRead_eq
      { s with cpu := { s.cpu with pc := pc, haltBug := false, opAddr := s.cpu.pc }, draws := d } pc
    exact ⟨pc + 1, e, by simp only [State.afterFetch8, he]; rfl⟩
  unfold State.afterFetch
  split
  · exact h1
  · split
    · exact h2 _ h1
    · exact h2 _ (h2 _ h1)

theorem State.afterFetch_pieces (s : State) : Pieces s s.afterFetch := by
  obtain ⟨pc, d, h⟩ := s.afterFetch_eq
  rw [h]; exact ((Pieces.start s).after (.cpu _ _)).after (.draws _ _)

theorem instrLength_cases (op : Byte) : instrLength op = 1 ∨ instrLength op = 2 ∨ instrLength op = 3 := by
  unfold instrLength
  split
  · simp
  · split <;> simp

/-- The bytes the fetch reads decode to the instruction it fetches, and nothing is left over. -/
theorem State.decode_fetchedBytes (s : State) : decode s.fetchedBytes = .ok (s.fetchedInstr, []) := by
  unfold State.fetchedBytes State.fetchedInstr
  rcases instrLength_cases s.opcode with h | h | h <;> simp [h, decode]

theorem State.peek_afterOpcode (s : State) (a : Word) (h : isAudio a = false) : s.afterOpcode.peek a = s.peek a :=
  (State.busRead_cpu (s.afterRead s.cpu.pc) _ _ true a).trans (s.peek_afterRead _ _ h)

theorem State.peek_afterFetch8 (s : State) (a : Word) (h : isAudio a = false) : s.afterFetch8.peek a = s.peek a :=
  (State.busRead_cpu (s.afterRead s.cpu.pc) _ _ true a).trans (s.peek_afterRead _ _ h)

theorem State.afterOpcode_cpu (s : State) : s.afterOpcode.cpu = { s.cpu with
    pc := if s.cpu.haltBug = true then s.cpu.pc else s.cpu.pc + 1, haltBug := false, opAddr := s.cpu.pc } := by
  simp [State.afterOpcode]

theorem State.afterFetch8_cpu (s : State) : s.afterFetch8.cpu = { s.cpu with pc := s.cpu.pc + 1 } := by
  change ({ (s.afterRead s.cpu.pc).cpu with pc := s.cpu.pc + 1 } : Cpu) = _
  rw [s.afterRead_cpu]

/-! ## The dispatch -/

theorem State.pending_getLsbD (s : State) (k : Nat) (h : k < 5) :
    s.pending.getLsbD k = (s.intr.ie.getLsbD k && s.intr.iflag.getLsbD k) := by
  simp [State.pending, h]

/-- The first pending source is the lowest set bit (R1022). -/
theorem firstPending_bit (p : BitVec 5) (k : Nat) (hk : k < 5) (hp : p.getLsbD k = true)
    (hlow : ∀ j, j < k → p.getLsbD j = false) : (firstPending p).bit = k := by
  unfold firstPending
  have : k = 0 ∨ k = 1 ∨ k = 2 ∨ k = 3 ∨ k = 4 := by omega
  rcases this with rfl | rfl | rfl | rfl | rfl
  · rw [if_pos hp]; rfl
  · rw [if_neg (by simpa using hlow 0 (by omega)), if_pos hp]; rfl
  · rw [if_neg (by simpa using hlow 0 (by omega)), if_neg (by simpa using hlow 1 (by omega)), if_pos hp]; rfl
  · rw [if_neg (by simpa using hlow 0 (by omega)), if_neg (by simpa using hlow 1 (by omega)),
      if_neg (by simpa using hlow 2 (by omega)), if_pos hp]; rfl
  · rw [if_neg (by simpa using hlow 0 (by omega)), if_neg (by simpa using hlow 1 (by omega)),
      if_neg (by simpa using hlow 2 (by omega)), if_neg (by simpa using hlow 3 (by omega))]; rfl

/-- The whole dispatch: the acknowledged state with the return address pushed, and the CPU as it leaves it (R1020). -/
theorem State.takeInterrupt_eq (s : State) : s.takeInterrupt =
    (((s.acknowledge (firstPending s.pending)).busWrite (s.cpu.sp - 1) (hi s.returnAddress)).busWrite (s.cpu.sp - 2)
      (lo s.returnAddress)).withCpu { s.cpu with
        pc := (firstPending s.pending).vector, sp := s.cpu.sp - 2, ime := false, eiPending := false, haltBug := false }
      (s.cycles + 20) := by
  have h : (((s.acknowledge (firstPending s.pending)).setIme false).setEiPending false).setHaltBug false =
      (s.acknowledge (firstPending s.pending)).withCpu { s.cpu with ime := false, eiPending := false, haltBug := false }
        s.cycles := rfl
  unfold State.takeInterrupt
  simp only [h, State.push16_eq]
  rw [State.busWrite_withCpu, State.busWrite_withCpu]
  rfl

theorem State.takeInterrupt_pieces (s : State) : Pieces s s.takeInterrupt :=
  ((((((((Pieces.start s).after (.acknowledge _ _)).after (.cpu _ _)).after (.cpu _ _)).after (.cpu _ _)).push16 _).after
    (.cpu _ _)).tick _)

/-! ## The step -/

/-- HALT halts or arms the latch (R901). -/
theorem State.enterHalt_cases (s : State) :
    ((s.cpu.ime = true ∨ s.pending = 0) ∧ s.enterHalt = s.setRun .halted) ∨
      (¬ (s.cpu.ime = true ∨ s.pending = 0) ∧ s.enterHalt = s.setHaltBug true) := by
  unfold State.enterHalt
  split
  · exact .inl ⟨‹_›, rfl⟩
  · exact .inr ⟨‹_›, rfl⟩

/-- The T-cycles that waking costs (R1030). -/
def State.wakeCost (s : State) : Nat := if s.cpu.run = .halted then s.launch.params.haltWakeExtraT else 0

/-- How a step goes. -/
inductive Stepped (s t : State) : Prop where
  | faulted (hr : s.cpu.run = .faulted) (h : t = s)
  | idleHalted (hr : s.cpu.run = .halted) (hp : s.pending = 0) (h : t = (State.advanceDevices 4 s).tick 4)
  | idleStopped (hr : s.cpu.run = .stopped) (hl : joypadLines s.joypad = 0xF#4) (h : t = s.tick 4)
  | interrupt (hr : s.cpu.run ≠ .faulted) (hi : s.cpu.ime = true ∧ s.pending ≠ 0)
      (h : t = State.finishStep s.wakeCost (s.setRun .running) (s.setRun .running).takeInterrupt)
  | instruction (hr : s.cpu.run ≠ .faulted) (hi : ¬ (s.cpu.ime = true ∧ s.pending ≠ 0)) (done : State)
      (hx : exec (s.setRun .running).fetchedInstr (s.setRun .running).afterFetch = .next done)
      (he : Ended (s.setRun .running).fetchedInstr (s.setRun .running).afterFetch done)
      (h : t = State.completeStep s.wakeCost (s.setRun .running) done)

theorem State.setRun_self (s : State) (r : RunState) (h : s.cpu.run = r) : s.setRun r = s := by subst h; rfl

theorem State.stepAwake_stepped (s : State) (hr : s.cpu.run ≠ .faulted) :
    ∃ t, State.stepAwake s.wakeCost (s.setRun .running) = .next t ∧ Stepped s t := by
  unfold State.stepAwake
  split
  · exact ⟨_, rfl, .interrupt hr ‹_› rfl⟩
  · obtain ⟨done, hx, he⟩ := exec_did (s.setRun .running).afterFetch (s.setRun .running).fetchedInstr
    refine ⟨State.completeStep s.wakeCost (s.setRun .running) done, ?_, .instruction hr ‹_› done hx he rfl⟩
    unfold State.runInstruction
    rw [hx]

theorem step_stepped (s : State) : ∃ t, step s = .next t ∧ Stepped s t := by
  unfold step State.stepOnce
  split
  · exact ⟨s, rfl, .faulted ‹_› rfl⟩
  · split
    · exact ⟨_, rfl, .idleStopped ‹_› ‹_› rfl⟩
    · have h := State.stepAwake_stepped s (by simp [*])
      rwa [show s.wakeCost = 0 by simp [State.wakeCost, *]] at h
  · split
    · exact ⟨_, rfl, .idleHalted ‹_› ‹_› rfl⟩
    · have h := State.stepAwake_stepped s (by simp [*])
      rwa [show s.wakeCost = s.launch.params.haltWakeExtraT by simp [State.wakeCost, *]] at h
  · have h := State.stepAwake_stepped s (by simp [*])
    rwa [show s.wakeCost = 0 by simp [State.wakeCost, *], s.setRun_self .running ‹_›] at h

theorem step_cases {s t : State} (h : step s = .next t) : Stepped s t := by
  obtain ⟨u, hu, k⟩ := step_stepped s
  rw [h] at hu
  cases hu
  exact k

theorem State.finishStep_pieces {s : State} (extra : Nat) (start done : State) (p : Pieces s done) :
    Pieces s (State.finishStep extra start done) := (p.tick _).advance _

theorem State.endEiDelay_pieces {s : State} (arm : Bool) (done : State) (p : Pieces s done) :
    Pieces s (State.endEiDelay arm done) := by
  unfold State.endEiDelay
  split
  · exact (p.after (.cpu _ _)).after (.cpu _ _)
  · exact p

theorem Ended.pieces {i : Instr} {s t : State} (h : Ended i s t) : Pieces s t := by
  cases h with
  | ordinary h => exact h.1
  | halt _ h => subst h; unfold State.enterHalt; split <;> exact ((Pieces.start s).after (.cpu _ _)).tick _
  | stop _ _ h => subst h; exact (((Pieces.start s).after (.stopDiv _)).after (.cpu _ _)).tick _
  | di _ h => subst h; exact (((Pieces.start s).after (.cpu _ _)).after (.cpu _ _)).tick _
  | ei _ h => subst h; exact ((Pieces.start s).after (.cpu _ _)).tick _
  | decodeError _ h => subst h; exact (Pieces.start s).after (.cpu _ _)

/-- A step is made of pieces. -/
theorem step_pieces {s t : State} (h : step s = .next t) : Pieces s t := by
  cases step_cases h with
  | faulted _ h => subst h; exact .refl
  | idleHalted _ _ h => subst h; exact ((Pieces.start s).advance 4).tick 4
  | idleStopped _ _ h => subst h; exact (Pieces.start s).tick 4
  | interrupt _ _ h =>
    subst h
    exact State.finishStep_pieces _ _ _ (((Pieces.start s).after (.cpu _ _)).trans (State.takeInterrupt_pieces _))
  | instruction _ _ done _ he h =>
    subst h
    have p : Pieces s done := (((Pieces.start s).after (.cpu _ _)).trans (State.afterFetch_pieces _)).trans he.pieces
    unfold State.completeStep
    split
    · exact ((Pieces.start s).after (.cpu _ _)).after (.cpu _ _)
    · exact State.finishStep_pieces _ _ _ (State.endEiDelay_pieces _ _ p)

/-- What every piece keeps, every step keeps. -/
theorem step_keep {P : State → Prop} (h : ∀ s t, Piece s t → P s → P t) {s t : State} (hst : step s = .next t) (hs : P s) : P t :=
  (step_pieces hst).keep h hs

end Sys2Proof.Machine
end

