-- ==== Sys2Proof/Tests/Slice0.lean ====
section
/-! SUPPORT. Tests of single decodes and single steps, their expected values from the spec: the encodings of 30_encoding.md and
opcode_table.json, the vectors of 95_test_vectors.md (named in the theorem's name); and, for each obligation with hypotheses, states and
operands that meet them. -/

namespace Sys2Proof.Tests

open Sys2Proof.Machine

set_option maxRecDepth 100000

/-! ## Well-formedness -/

theorem test_params_default_wellFormed : ({} : Params).wellFormed = true := by decide
theorem test_params_longest_mode3_wellFormed : ({ mode3T := 375 } : Params).wellFormed = true := by decide
theorem test_params_mode3_too_long : ({ mode3T := 376 } : Params).wellFormed = false := by decide
theorem test_cartridge_three_banks : ({ Launch.blank.cart with romBanks := 3 } : Cartridge).romBanksOk = false := by decide
theorem test_cartridge_odd_ram : ({ Launch.blank.cart with ramSize := 4096 } : Cartridge).ramSizeOk = false := by decide
theorem test_cartridge_rumble_on_rom_only : ({ Launch.blank.cart with rumble := true } : Cartridge).rumbleOk = false := by decide
theorem test_cartridge_ill_formed : ({ Launch.blank.cart with romBanks := 1024 } : Cartridge).wellFormed = false := by decide
theorem test_rom_too_short : ({ length := 0x14F, cells := [] } : RomImage).lengthOk = false := by decide
theorem test_rom_shortest : ({ length := 0x150, cells := [] } : RomImage).lengthOk = true := by decide
theorem test_launch_ill_formed : ({ Launch.blank with rom := { length := 0x14F, cells := [] } } : Launch).wellFormed = false := by decide
theorem test_launch_blank_wellFormed : Launch.blank.wellFormed = true := by decide
theorem test_instr_wellFormed : (Instr.stop 0x5A).wellFormed = true := by decide
theorem test_memory_not_rising : Memory.wf [(0xC001, 1), (0xC000, 2)] = false := by decide
theorem test_memory_repeats : Memory.wf [(0xC000, 1), (0xC000, 2)] = false := by decide
theorem test_memory_lists_unlisted : Memory.wf [(0xC000, 0)] = false := by decide
theorem test_memory_outside : Memory.within (placeOk 0) [(0x7FFF, 1)] = false := by decide

/-! ## Decoding: one word for each constructor, from the table's match value; immediate bytes 0x34 0x12, or 0x5A -/

/-- The instruction that the bytes are, when they are exactly one. -/
def decoded (bs : List Byte) : Option Instr :=
  match decode bs with
  | .ok (i, []) => some i
  | _ => none

theorem test_decode_row_0 : [[0x00], [0x01, 0x34, 0x12], [0x02], [0x03], [0x04], [0x05], [0x06, 0x5A], [0x07], [0x08, 0x34, 0x12], [0x09],
    [0x0A], [0x0B], [0x0C], [0x0D], [0x0E, 0x5A], [0x0F]].map decoded =
    [some .nop, some (.ldBcD16 0x1234), some .ldIndBcA, some .incBc, some .incB, some .decB, some (.ldBD8 0x5A),
    some .rlca, some (.ldIndA16Sp 0x1234), some .addHlBc, some .ldAIndBc, some .decBc, some .incC, some .decC,
    some (.ldCD8 0x5A), some .rrca] := by decide
theorem test_decode_row_1 : [[0x10, 0x5A], [0x11, 0x34, 0x12], [0x12], [0x13], [0x14], [0x15], [0x16, 0x5A], [0x17], [0x18, 0x5A], [0x19],
    [0x1A], [0x1B], [0x1C], [0x1D], [0x1E, 0x5A], [0x1F]].map decoded =
    [some (.stop 0x5A), some (.ldDeD16 0x1234), some .ldIndDeA, some .incDe, some .incD, some .decD,
    some (.ldDD8 0x5A), some .rla, some (.jrE8 0x5A), some .addHlDe, some .ldAIndDe, some .decDe, some .incE,
    some .decE, some (.ldED8 0x5A), some .rra] := by decide
theorem test_decode_row_2 : [[0x20, 0x5A], [0x21, 0x34, 0x12], [0x22], [0x23], [0x24], [0x25], [0x26, 0x5A], [0x27], [0x28, 0x5A], [0x29],
    [0x2A], [0x2B], [0x2C], [0x2D], [0x2E, 0x5A], [0x2F]].map decoded =
    [some (.jrNzE8 0x5A), some (.ldHlD16 0x1234), some .ldIndHliA, some .incHl, some .incH, some .decH,
    some (.ldHD8 0x5A), some .daa, some (.jrZE8 0x5A), some .addHlHl, some .ldAIndHli, some .decHl, some .incL,
    some .decL, some (.ldLD8 0x5A), some .cplA] := by decide
theorem test_decode_row_3 : [[0x30, 0x5A], [0x31, 0x34, 0x12], [0x32], [0x33], [0x34], [0x35], [0x36, 0x5A], [0x37], [0x38, 0x5A], [0x39],
    [0x3A], [0x3B], [0x3C], [0x3D], [0x3E, 0x5A], [0x3F]].map decoded =
    [some (.jrNcE8 0x5A), some (.ldSpD16 0x1234), some .ldIndHldA, some .incSp, some .incIndHl, some .decIndHl,
    some (.ldIndHlD8 0x5A), some .scf, some (.jrCE8 0x5A), some .addHlSp, some .ldAIndHld, some .decSp, some .incA,
    some .decA, some (.ldAD8 0x5A), some .ccf] := by decide
theorem test_decode_row_4 : [[0x40], [0x41], [0x42], [0x43], [0x44], [0x45], [0x46], [0x47], [0x48], [0x49], [0x4A], [0x4B], [0x4C], [0x4D],
    [0x4E], [0x4F]].map decoded =
    [some .ldBB, some .ldBC, some .ldBD, some .ldBE, some .ldBH, some .ldBL, some .ldBIndHl, some .ldBA, some .ldCB,
    some .ldCC, some .ldCD, some .ldCE, some .ldCH, some .ldCL, some .ldCIndHl, some .ldCA] := by decide
theorem test_decode_row_5 : [[0x50], [0x51], [0x52], [0x53], [0x54], [0x55], [0x56], [0x57], [0x58], [0x59], [0x5A], [0x5B], [0x5C], [0x5D],
    [0x5E], [0x5F]].map decoded =
    [some .ldDB, some .ldDC, some .ldDD, some .ldDE, some .ldDH, some .ldDL, some .ldDIndHl, some .ldDA, some .ldEB,
    some .ldEC, some .ldED, some .ldEE, some .ldEH, some .ldEL, some .ldEIndHl, some .ldEA] := by decide
theorem test_decode_row_6 : [[0x60], [0x61], [0x62], [0x63], [0x64], [0x65], [0x66], [0x67], [0x68], [0x69], [0x6A], [0x6B], [0x6C], [0x6D],
    [0x6E], [0x6F]].map decoded =
    [some .ldHB, some .ldHC, some .ldHD, some .ldHE, some .ldHH, some .ldHL, some .ldHIndHl, some .ldHA, some .ldLB,
    some .ldLC, some .ldLD, some .ldLE, some .ldLH, some .ldLL, some .ldLIndHl, some .ldLA] := by decide
theorem test_decode_row_7 : [[0x70], [0x71], [0x72], [0x73], [0x74], [0x75], [0x76], [0x77], [0x78], [0x79], [0x7A], [0x7B], [0x7C], [0x7D],
    [0x7E], [0x7F]].map decoded =
    [some .ldIndHlB, some .ldIndHlC, some .ldIndHlD, some .ldIndHlE, some .ldIndHlH, some .ldIndHlL, some .halt,
    some .ldIndHlA, some .ldAB, some .ldAC, some .ldAD, some .ldAE, some .ldAH, some .ldAL, some .ldAIndHl,
    some .ldAA] := by decide
theorem test_decode_row_8 : [[0x80], [0x81], [0x82], [0x83], [0x84], [0x85], [0x86], [0x87], [0x88], [0x89], [0x8A], [0x8B], [0x8C], [0x8D],
    [0x8E], [0x8F]].map decoded =
    [some .addAB, some .addAC, some .addAD, some .addAE, some .addAH, some .addAL, some .addAIndHl, some .addAA,
    some .adcAB, some .adcAC, some .adcAD, some .adcAE, some .adcAH, some .adcAL, some .adcAIndHl, some .adcAA] := by decide
theorem test_decode_row_9 : [[0x90], [0x91], [0x92], [0x93], [0x94], [0x95], [0x96], [0x97], [0x98], [0x99], [0x9A], [0x9B], [0x9C], [0x9D],
    [0x9E], [0x9F]].map decoded =
    [some .subB, some .subC, some .subD, some .subE, some .subH, some .subL, some .subIndHl, some .subA,
    some .sbcAB, some .sbcAC, some .sbcAD, some .sbcAE, some .sbcAH, some .sbcAL, some .sbcAIndHl, some .sbcAA] := by decide
theorem test_decode_row_A : [[0xA0], [0xA1], [0xA2], [0xA3], [0xA4], [0xA5], [0xA6], [0xA7], [0xA8], [0xA9], [0xAA], [0xAB], [0xAC], [0xAD],
    [0xAE], [0xAF]].map decoded =
    [some .andB, some .andC, some .andD, some .andE, some .andH, some .andL, some .andIndHl, some .andA, some .xorB,
    some .xorC, some .xorD, some .xorE, some .xorH, some .xorL, some .xorIndHl, some .xorA] := by decide
theorem test_decode_row_B : [[0xB0], [0xB1], [0xB2], [0xB3], [0xB4], [0xB5], [0xB6], [0xB7], [0xB8], [0xB9], [0xBA], [0xBB], [0xBC], [0xBD],
    [0xBE], [0xBF]].map decoded =
    [some .orB, some .orC, some .orD, some .orE, some .orH, some .orL, some .orIndHl, some .orA, some .cpB,
    some .cpC, some .cpD, some .cpE, some .cpH, some .cpL, some .cpIndHl, some .cpA] := by decide
theorem test_decode_row_C : [[0xC0], [0xC1], [0xC2, 0x34, 0x12], [0xC3, 0x34, 0x12], [0xC4, 0x34, 0x12], [0xC5], [0xC6, 0x5A], [0xC7],
    [0xC8], [0xC9], [0xCA, 0x34, 0x12], [0xCC, 0x34, 0x12], [0xCD, 0x34, 0x12], [0xCE, 0x5A], [0xCF]].map decoded =
    [some .retNz, some .popBc, some (.jpNzA16 0x1234), some (.jpA16 0x1234), some (.callNzA16 0x1234), some .pushBc,
    some (.addAD8 0x5A), some .rst00, some .retZ, some .ret, some (.jpZA16 0x1234), some (.callZA16 0x1234),
    some (.callA16 0x1234), some (.adcAD8 0x5A), some .rst08] := by decide
theorem test_decode_row_D : [[0xD0], [0xD1], [0xD2, 0x34, 0x12], [0xD3], [0xD4, 0x34, 0x12], [0xD5], [0xD6, 0x5A], [0xD7], [0xD8], [0xD9],
    [0xDA, 0x34, 0x12], [0xDB], [0xDC, 0x34, 0x12], [0xDD], [0xDE, 0x5A], [0xDF]].map decoded =
    [some .retNc, some .popDe, some (.jpNcA16 0x1234), some .illegalD3, some (.callNcA16 0x1234), some .pushDe,
    some (.subD8 0x5A), some .rst10, some .retC, some .reti, some (.jpCA16 0x1234), some .illegalDB,
    some (.callCA16 0x1234), some .illegalDD, some (.sbcAD8 0x5A), some .rst18] := by decide
theorem test_decode_row_E : [[0xE0, 0x5A], [0xE1], [0xE2], [0xE3], [0xE4], [0xE5], [0xE6, 0x5A], [0xE7], [0xE8, 0x5A], [0xE9],
    [0xEA, 0x34, 0x12], [0xEB], [0xEC], [0xED], [0xEE, 0x5A], [0xEF]].map decoded =
    [some (.ldhIndA8A 0x5A), some .popHl, some .ldhIndCA, some .illegalE3, some .illegalE4, some .pushHl,
    some (.andD8 0x5A), some .rst20, some (.addSpE8 0x5A), some .jpHl, some (.ldIndA16A 0x1234), some .illegalEB,
    some .illegalEC, some .illegalED, some (.xorD8 0x5A), some .rst28] := by decide
theorem test_decode_row_F : [[0xF0, 0x5A], [0xF1], [0xF2], [0xF3], [0xF4], [0xF5], [0xF6, 0x5A], [0xF7], [0xF8, 0x5A], [0xF9],
    [0xFA, 0x34, 0x12], [0xFB], [0xFC], [0xFD], [0xFE, 0x5A], [0xFF]].map decoded =
    [some (.ldhAIndA8 0x5A), some .popAf, some .ldhAIndC, some .di, some .illegalF4, some .pushAf,
    some (.orD8 0x5A), some .rst30, some (.ldHlSpE8 0x5A), some .ldSpHl, some (.ldAIndA16 0x1234), some .ei,
    some .illegalFC, some .illegalFD, some (.cpD8 0x5A), some .rst38] := by decide
theorem test_decode_cb_row_0 : [[0xCB, 0x00], [0xCB, 0x01], [0xCB, 0x02], [0xCB, 0x03], [0xCB, 0x04], [0xCB, 0x05], [0xCB, 0x06], [0xCB, 0x07],
    [0xCB, 0x08], [0xCB, 0x09], [0xCB, 0x0A], [0xCB, 0x0B], [0xCB, 0x0C], [0xCB, 0x0D], [0xCB, 0x0E], [0xCB, 0x0F]].map decoded =
    [some .cbRlcB, some .cbRlcC, some .cbRlcD, some .cbRlcE, some .cbRlcH, some .cbRlcL, some .cbRlcIndHl,
    some .cbRlcA, some .cbRrcB, some .cbRrcC, some .cbRrcD, some .cbRrcE, some .cbRrcH, some .cbRrcL,
    some .cbRrcIndHl, some .cbRrcA] := by decide
theorem test_decode_cb_row_1 : [[0xCB, 0x10], [0xCB, 0x11], [0xCB, 0x12], [0xCB, 0x13], [0xCB, 0x14], [0xCB, 0x15], [0xCB, 0x16], [0xCB, 0x17],
    [0xCB, 0x18], [0xCB, 0x19], [0xCB, 0x1A], [0xCB, 0x1B], [0xCB, 0x1C], [0xCB, 0x1D], [0xCB, 0x1E], [0xCB, 0x1F]].map decoded =
    [some .cbRlB, some .cbRlC, some .cbRlD, some .cbRlE, some .cbRlH, some .cbRlL, some .cbRlIndHl, some .cbRlA,
    some .cbRrB, some .cbRrC, some .cbRrD, some .cbRrE, some .cbRrH, some .cbRrL, some .cbRrIndHl, some .cbRrA] := by decide
theorem test_decode_cb_row_2 : [[0xCB, 0x20], [0xCB, 0x21], [0xCB, 0x22], [0xCB, 0x23], [0xCB, 0x24], [0xCB, 0x25], [0xCB, 0x26], [0xCB, 0x27],
    [0xCB, 0x28], [0xCB, 0x29], [0xCB, 0x2A], [0xCB, 0x2B], [0xCB, 0x2C], [0xCB, 0x2D], [0xCB, 0x2E], [0xCB, 0x2F]].map decoded =
    [some .cbSlaB, some .cbSlaC, some .cbSlaD, some .cbSlaE, some .cbSlaH, some .cbSlaL, some .cbSlaIndHl,
    some .cbSlaA, some .cbSraB, some .cbSraC, some .cbSraD, some .cbSraE, some .cbSraH, some .cbSraL,
    some .cbSraIndHl, some .cbSraA] := by decide
theorem test_decode_cb_row_3 : [[0xCB, 0x30], [0xCB, 0x31], [0xCB, 0x32], [0xCB, 0x33], [0xCB, 0x34], [0xCB, 0x35], [0xCB, 0x36], [0xCB, 0x37],
    [0xCB, 0x38], [0xCB, 0x39], [0xCB, 0x3A], [0xCB, 0x3B], [0xCB, 0x3C], [0xCB, 0x3D], [0xCB, 0x3E], [0xCB, 0x3F]].map decoded =
    [some .cbSwapB, some .cbSwapC, some .cbSwapD, some .cbSwapE, some .cbSwapH, some .cbSwapL, some .cbSwapIndHl,
    some .cbSwapA, some .cbSrlB, some .cbSrlC, some .cbSrlD, some .cbSrlE, some .cbSrlH, some .cbSrlL,
    some .cbSrlIndHl, some .cbSrlA] := by decide
theorem test_decode_cb_row_4 : [[0xCB, 0x40], [0xCB, 0x41], [0xCB, 0x42], [0xCB, 0x43], [0xCB, 0x44], [0xCB, 0x45], [0xCB, 0x46], [0xCB, 0x47],
    [0xCB, 0x48], [0xCB, 0x49], [0xCB, 0x4A], [0xCB, 0x4B], [0xCB, 0x4C], [0xCB, 0x4D], [0xCB, 0x4E], [0xCB, 0x4F]].map decoded =
    [some .cbBit0B, some .cbBit0C, some .cbBit0D, some .cbBit0E, some .cbBit0H, some .cbBit0L, some .cbBit0IndHl,
    some .cbBit0A, some .cbBit1B, some .cbBit1C, some .cbBit1D, some .cbBit1E, some .cbBit1H, some .cbBit1L,
    some .cbBit1IndHl, some .cbBit1A] := by decide
theorem test_decode_cb_row_5 : [[0xCB, 0x50], [0xCB, 0x51], [0xCB, 0x52], [0xCB, 0x53], [0xCB, 0x54], [0xCB, 0x55], [0xCB, 0x56], [0xCB, 0x57],
    [0xCB, 0x58], [0xCB, 0x59], [0xCB, 0x5A], [0xCB, 0x5B], [0xCB, 0x5C], [0xCB, 0x5D], [0xCB, 0x5E], [0xCB, 0x5F]].map decoded =
    [some .cbBit2B, some .cbBit2C, some .cbBit2D, some .cbBit2E, some .cbBit2H, some .cbBit2L, some .cbBit2IndHl,
    some .cbBit2A, some .cbBit3B, some .cbBit3C, some .cbBit3D, some .cbBit3E, some .cbBit3H, some .cbBit3L,
    some .cbBit3IndHl, some .cbBit3A] := by decide
theorem test_decode_cb_row_6 : [[0xCB, 0x60], [0xCB, 0x61], [0xCB, 0x62], [0xCB, 0x63], [0xCB, 0x64], [0xCB, 0x65], [0xCB, 0x66], [0xCB, 0x67],
    [0xCB, 0x68], [0xCB, 0x69], [0xCB, 0x6A], [0xCB, 0x6B], [0xCB, 0x6C], [0xCB, 0x6D], [0xCB, 0x6E], [0xCB, 0x6F]].map decoded =
    [some .cbBit4B, some .cbBit4C, some .cbBit4D, some .cbBit4E, some .cbBit4H, some .cbBit4L, some .cbBit4IndHl,
    some .cbBit4A, some .cbBit5B, some .cbBit5C, some .cbBit5D, some .cbBit5E, some .cbBit5H, some .cbBit5L,
    some .cbBit5IndHl, some .cbBit5A] := by decide
theorem test_decode_cb_row_7 : [[0xCB, 0x70], [0xCB, 0x71], [0xCB, 0x72], [0xCB, 0x73], [0xCB, 0x74], [0xCB, 0x75], [0xCB, 0x76], [0xCB, 0x77],
    [0xCB, 0x78], [0xCB, 0x79], [0xCB, 0x7A], [0xCB, 0x7B], [0xCB, 0x7C], [0xCB, 0x7D], [0xCB, 0x7E], [0xCB, 0x7F]].map decoded =
    [some .cbBit6B, some .cbBit6C, some .cbBit6D, some .cbBit6E, some .cbBit6H, some .cbBit6L, some .cbBit6IndHl,
    some .cbBit6A, some .cbBit7B, some .cbBit7C, some .cbBit7D, some .cbBit7E, some .cbBit7H, some .cbBit7L,
    some .cbBit7IndHl, some .cbBit7A] := by decide
theorem test_decode_cb_row_8 : [[0xCB, 0x80], [0xCB, 0x81], [0xCB, 0x82], [0xCB, 0x83], [0xCB, 0x84], [0xCB, 0x85], [0xCB, 0x86], [0xCB, 0x87],
    [0xCB, 0x88], [0xCB, 0x89], [0xCB, 0x8A], [0xCB, 0x8B], [0xCB, 0x8C], [0xCB, 0x8D], [0xCB, 0x8E], [0xCB, 0x8F]].map decoded =
    [some .cbRes0B, some .cbRes0C, some .cbRes0D, some .cbRes0E, some .cbRes0H, some .cbRes0L, some .cbRes0IndHl,
    some .cbRes0A, some .cbRes1B, some .cbRes1C, some .cbRes1D, some .cbRes1E, some .cbRes1H, some .cbRes1L,
    some .cbRes1IndHl, some .cbRes1A] := by decide
theorem test_decode_cb_row_9 : [[0xCB, 0x90], [0xCB, 0x91], [0xCB, 0x92], [0xCB, 0x93], [0xCB, 0x94], [0xCB, 0x95], [0xCB, 0x96], [0xCB, 0x97],
    [0xCB, 0x98], [0xCB, 0x99], [0xCB, 0x9A], [0xCB, 0x9B], [0xCB, 0x9C], [0xCB, 0x9D], [0xCB, 0x9E], [0xCB, 0x9F]].map decoded =
    [some .cbRes2B, some .cbRes2C, some .cbRes2D, some .cbRes2E, some .cbRes2H, some .cbRes2L, some .cbRes2IndHl,
    some .cbRes2A, some .cbRes3B, some .cbRes3C, some .cbRes3D, some .cbRes3E, some .cbRes3H, some .cbRes3L,
    some .cbRes3IndHl, some .cbRes3A] := by decide
theorem test_decode_cb_row_A : [[0xCB, 0xA0], [0xCB, 0xA1], [0xCB, 0xA2], [0xCB, 0xA3], [0xCB, 0xA4], [0xCB, 0xA5], [0xCB, 0xA6], [0xCB, 0xA7],
    [0xCB, 0xA8], [0xCB, 0xA9], [0xCB, 0xAA], [0xCB, 0xAB], [0xCB, 0xAC], [0xCB, 0xAD], [0xCB, 0xAE], [0xCB, 0xAF]].map decoded =
    [some .cbRes4B, some .cbRes4C, some .cbRes4D, some .cbRes4E, some .cbRes4H, some .cbRes4L, some .cbRes4IndHl,
    some .cbRes4A, some .cbRes5B, some .cbRes5C, some .cbRes5D, some .cbRes5E, some .cbRes5H, some .cbRes5L,
    some .cbRes5IndHl, some .cbRes5A] := by decide
theorem test_decode_cb_row_B : [[0xCB, 0xB0], [0xCB, 0xB1], [0xCB, 0xB2], [0xCB, 0xB3], [0xCB, 0xB4], [0xCB, 0xB5], [0xCB, 0xB6], [0xCB, 0xB7],
    [0xCB, 0xB8], [0xCB, 0xB9], [0xCB, 0xBA], [0xCB, 0xBB], [0xCB, 0xBC], [0xCB, 0xBD], [0xCB, 0xBE], [0xCB, 0xBF]].map decoded =
    [some .cbRes6B, some .cbRes6C, some .cbRes6D, some .cbRes6E, some .cbRes6H, some .cbRes6L, some .cbRes6IndHl,
    some .cbRes6A, some .cbRes7B, some .cbRes7C, some .cbRes7D, some .cbRes7E, some .cbRes7H, some .cbRes7L,
    some .cbRes7IndHl, some .cbRes7A] := by decide
theorem test_decode_cb_row_C : [[0xCB, 0xC0], [0xCB, 0xC1], [0xCB, 0xC2], [0xCB, 0xC3], [0xCB, 0xC4], [0xCB, 0xC5], [0xCB, 0xC6], [0xCB, 0xC7],
    [0xCB, 0xC8], [0xCB, 0xC9], [0xCB, 0xCA], [0xCB, 0xCB], [0xCB, 0xCC], [0xCB, 0xCD], [0xCB, 0xCE], [0xCB, 0xCF]].map decoded =
    [some .cbSet0B, some .cbSet0C, some .cbSet0D, some .cbSet0E, some .cbSet0H, some .cbSet0L, some .cbSet0IndHl,
    some .cbSet0A, some .cbSet1B, some .cbSet1C, some .cbSet1D, some .cbSet1E, some .cbSet1H, some .cbSet1L,
    some .cbSet1IndHl, some .cbSet1A] := by decide
theorem test_decode_cb_row_D : [[0xCB, 0xD0], [0xCB, 0xD1], [0xCB, 0xD2], [0xCB, 0xD3], [0xCB, 0xD4], [0xCB, 0xD5], [0xCB, 0xD6], [0xCB, 0xD7],
    [0xCB, 0xD8], [0xCB, 0xD9], [0xCB, 0xDA], [0xCB, 0xDB], [0xCB, 0xDC], [0xCB, 0xDD], [0xCB, 0xDE], [0xCB, 0xDF]].map decoded =
    [some .cbSet2B, some .cbSet2C, some .cbSet2D, some .cbSet2E, some .cbSet2H, some .cbSet2L, some .cbSet2IndHl,
    some .cbSet2A, some .cbSet3B, some .cbSet3C, some .cbSet3D, some .cbSet3E, some .cbSet3H, some .cbSet3L,
    some .cbSet3IndHl, some .cbSet3A] := by decide
theorem test_decode_cb_row_E : [[0xCB, 0xE0], [0xCB, 0xE1], [0xCB, 0xE2], [0xCB, 0xE3], [0xCB, 0xE4], [0xCB, 0xE5], [0xCB, 0xE6], [0xCB, 0xE7],
    [0xCB, 0xE8], [0xCB, 0xE9], [0xCB, 0xEA], [0xCB, 0xEB], [0xCB, 0xEC], [0xCB, 0xED], [0xCB, 0xEE], [0xCB, 0xEF]].map decoded =
    [some .cbSet4B, some .cbSet4C, some .cbSet4D, some .cbSet4E, some .cbSet4H, some .cbSet4L, some .cbSet4IndHl,
    some .cbSet4A, some .cbSet5B, some .cbSet5C, some .cbSet5D, some .cbSet5E, some .cbSet5H, some .cbSet5L,
    some .cbSet5IndHl, some .cbSet5A] := by decide
theorem test_decode_cb_row_F : [[0xCB, 0xF0], [0xCB, 0xF1], [0xCB, 0xF2], [0xCB, 0xF3], [0xCB, 0xF4], [0xCB, 0xF5], [0xCB, 0xF6], [0xCB, 0xF7],
    [0xCB, 0xF8], [0xCB, 0xF9], [0xCB, 0xFA], [0xCB, 0xFB], [0xCB, 0xFC], [0xCB, 0xFD], [0xCB, 0xFE], [0xCB, 0xFF]].map decoded =
    [some .cbSet6B, some .cbSet6C, some .cbSet6D, some .cbSet6E, some .cbSet6H, some .cbSet6L, some .cbSet6IndHl,
    some .cbSet6A, some .cbSet7B, some .cbSet7C, some .cbSet7D, some .cbSet7E, some .cbSet7H, some .cbSet7L,
    some .cbSet7IndHl, some .cbSet7A] := by decide

theorem test_decode_rejects_nothing : decode [] = .error .noOpcode := by decide
theorem test_decode_rejects_short_cb : decode [0xCB] = .error (.truncated 0xCB) := by decide
theorem test_decode_rejects_short_d16 : decode [0x01, 0x34] = .error (.truncated 0x01) := by decide
theorem test_decode_leaves_the_rest : decode [0x06, 0x5A, 0x78] = .ok (.ldBD8 0x5A, [0x78]) := by decide

/-! Words written out bit by bit from the encodings that the rules give. -/

theorem test_bits_load_r711_r401 : [[0b01111000], [0b01110100], [0b00001110, 0x7F], [0b11111010, 0x00, 0xC0]].map decoded =
    [some .ldAB, some .ldIndHlH, some (.ldCD8 0x7F), some (.ldAIndA16 0xC000)] := by decide
theorem test_bits_alu8 : [[0b10011100], [0b10000110], [0b11001110, 0x01], [0b00110101]].map decoded =
    [some .sbcAH, some .addAIndHl, some (.adcAD8 0x01), some .decIndHl] := by decide
theorem test_bits_alu16 : [[0b00101001], [0b00110011], [0b00001011], [0b11101000, 0xFF]].map decoded =
    [some .addHlHl, some .incSp, some .decBc, some (.addSpE8 0xFF)] := by decide
theorem test_bits_rotate_shift_bit : [[0b00010111], [0b11001011, 0b00101111], [0b11001011, 0b01111100],
    [0b11001011, 0b11011110]].map decoded = [some .rla, some .cbSraA, some .cbBit7H, some .cbSet3IndHl] := by decide
theorem test_bits_control : [[0b11000010, 0x00, 0x02], [0b00110000, 0xFE], [0b11101111], [0b11010000]].map decoded =
    [some (.jpNzA16 0x0200), some (.jrNcE8 0xFE), some .rst28, some .retNc] := by decide
theorem test_bits_system : [[0b01110110], [0b00010000, 0x00], [0b11110011], [0b11111011], [0b11010011]].map decoded =
    [some .halt, some (.stop 0x00), some .di, some .ei, some .illegalD3] := by decide

/-! The table's numbering: first byte lowest, except that a CB row is the number 0xCBxx (log 19). -/

theorem test_tableWord_op : decodeTableWord 8 0x78 = some .ldAB := by decide
theorem test_tableWord_cb : decodeTableWord 16 0xCB7C = some .cbBit7H := by decide
theorem test_tableWord_d16_low_first : decodeTableWord 24 0x123401 = some (.ldBcD16 0x1234) := by decide
theorem test_tableWord_operand_zeros : decodeTableWord 8 0xC3 = some (.jpA16 0) := by decide
theorem test_tableWord_d8 : decodeTableWord 16 0x5A06 = some (.ldBD8 0x5A) := by decide

/-! ## Single steps: the vectors of 95_test_vectors.md -/

/-- Base state B0 (95_test_vectors.md section 0). -/
def b0 : State := { State.reset with ppu := { State.reset.ppu with lcdc := 0x00, mode := .hblank } }

/-- A state with code at an address, PC there. -/
def code (s : State) (a : Word) (bs : List Byte) : State := (s.setPc a).placeBytes a bs

/-- The state after one step. -/
def after (s : State) : State :=
  match step s with
  | .next t => t
  | _ => s

/-- A state with IE and IF. -/
def irq (s : State) (ie : Byte) (iflag : BitVec 5) : State := { s with intr := { iflag := iflag, ie := ie } }

theorem test_r401_ls1_ls2 :
    (let t := after ((code b0 0x0100 [0x78]).setR .b 0x12)
     t.getR .a = 0x12#8 ∧ t.cycles = 4) ∧
    (let t := after ((code b0 0x0100 [0x40]).setR .b 0x77)
     t.getR .b = 0x77#8 ∧ t.cpu.f.toByte = 0xB0#8 ∧ t.cycles = 4) := by decide
theorem test_r402_ls3 :
    (let t := after (code b0 0x0100 [0x0E, 0x7F])
     t.getR .c = 0x7F#8 ∧ t.cpu.pc = 0x0102#16 ∧ t.cycles = 8) := by decide
theorem test_r403_ls4_ls5 :
    (let t := after (((code b0 0x0100 [0x7E]).setRp .hl 0xC000).placeByte 0xC000 0x3C)
     t.getR .a = 0x3C#8 ∧ t.cycles = 8) ∧
    (let t := after (((code b0 0x0100 [0x66]).setRp .hl 0xC000).placeByte 0xC000 0x55)
     t.getR .h = 0x55#8 ∧ t.getR .l = 0x00#8 ∧ t.cycles = 8) := by decide
theorem test_r404_ls6_ls6b :
    (let t := after (((code b0 0x0100 [0x77]).setRp .hl 0xC000).setR .a 0x99)
     t.peek 0xC000 = 0x99#8 ∧ t.cycles = 8) ∧
    (let t := after ((code b0 0x0100 [0x74]).setRp .hl 0xC012)
     t.peek 0xC012 = 0xC0#8 ∧ t.cycles = 8) := by decide
theorem test_r405_ls6c :
    (let t := after (((code b0 0x0100 [0x36, 0x00]).setRp .hl 0xC010).placeByte 0xC010 0x5A)
     t.peek 0xC010 = 0x00#8 ∧ t.cycles = 12) := by decide
theorem test_r406_ls6d :
    (let t := after (((code b0 0x0100 [0x0A]).setRp .bc 0xC100).placeByte 0xC100 0x07)
     t.getR .a = 0x07#8 ∧ t.cycles = 8) := by decide
theorem test_r407_ls6e :
    (let t := after (((code b0 0x0100 [0x1A]).setRp .de 0x0150).placeByte 0x0150 0xAF)
     t.getR .a = 0xAF#8 ∧ t.cycles = 8) := by decide
theorem test_r408_ls6f :
    (let t := after (((code b0 0x0100 [0x02]).setRp .bc 0xC200).setR .a 0x01)
     t.peek 0xC200 = 0x01#8 ∧ t.cycles = 8) := by decide
theorem test_r409_ls6g :
    (let t := after (((code b0 0x0100 [0x12]).setRp .de 0xFF80).setR .a 0x42)
     t.peek 0xFF80 = 0x42#8 ∧ t.cycles = 8) := by decide
theorem test_r410_ls6h_ls6i :
    (let t := after ((code b0 0x0100 [0xFA, 0x00, 0xC0]).placeByte 0xC000 0x5A)
     t.getR .a = 0x5A#8 ∧ t.cpu.pc = 0x0103#16 ∧ t.cycles = 16) ∧
    (let t := after ((code b0 0x0100 [0xFA, 0xFF, 0xFF]).placeByte 0xFFFF 0x1F)
     t.getR .a = 0x1F#8 ∧ t.cycles = 16) := by decide
theorem test_r413_ls7 :
    (let t := after (((code b0 0x0100 [0xE2]).setR .c 0x04).setR .a 0x77)
     t.timer.divCounter = 8#16 ∧ t.cycles = 8) := by decide
theorem test_r414_ls8 :
    (let t := after ((code b0 0x0100 [0xF0, 0x0F]).busWrite 0xFF0F 0x01)
     t.getR .a = 0xE1#8 ∧ t.cycles = 12) := by decide
theorem test_r415_ls9 :
    (let t := after (((code b0 0x0100 [0xE0, 0x0F]).setR .a 0x00).busWrite 0xFF0F 0x1F)
     t.peek 0xFF0F = (0x00#8 ||| 0xE0#8) ∧ t.cycles = 12) := by decide
theorem test_r416_ls10_ls11 :
    (let t := after (((code b0 0x0100 [0x3A]).setRp .hl 0xC001).placeByte 0xC001 0x11)
     t.getR .a = 0x11#8 ∧ t.getRp .hl = 0xC000#16 ∧ t.cycles = 8) ∧
    (let t := after ((code b0 0x0100 [0x3A]).setRp .hl 0x0000)
     t.getRp .hl = 0xFFFF#16 ∧ t.cycles = 8) := by decide
theorem test_r417_ls12 :
    (let t := after ((((code b0 0x0100 [0x32]).setRp .hl 0xDFFF).setR .a 0x00).placeByte 0xDFFF 0x55)
     t.getRp .hl = 0xDFFE#16 ∧ t.peek 0xDFFF = 0x00#8 ∧ t.cycles = 8) := by decide
theorem test_r418_ls13_ls14 :
    (let t := after (((code b0 0x0100 [0x2A]).setRp .hl 0x0104).placeByte 0x0104 0xCE)
     t.getR .a = 0xCE#8 ∧ t.getRp .hl = 0x0105#16 ∧ t.cycles = 8) ∧
    (let t := after (((code b0 0x0100 [0x2A]).setRp .hl 0xFFFF).placeByte 0xFFFF 0x05)
     t.getR .a = 0x05#8 ∧ t.getRp .hl = 0x0000#16 ∧ t.cycles = 8) := by decide
theorem test_r419_ls15 :
    (let t := after (((code b0 0x0100 [0x22]).setRp .hl 0x8000).setR .a 0xFF)
     t.getRp .hl = 0x8001#16 ∧ t.peek 0x8000 = 0xFF#8 ∧ t.cycles = 8) := by decide
theorem test_r420_ls16 :
    (let t := after ((code b0 0x0100 [0x31, 0xFE, 0xFF]).setRp .sp 0x0000)
     t.cpu.sp = 0xFFFE#16 ∧ t.cycles = 12) := by decide
theorem test_r421_ls17 :
    (let t := after ((code b0 0x0100 [0x08, 0x00, 0xC1]).setRp .sp 0xFFF8)
     t.peek 0xC100 = 0xF8#8 ∧ t.peek 0xC101 = 0xFF#8 ∧ t.cycles = 20) := by decide
theorem test_r422_ls18 :
    (let t := after ((code b0 0x0100 [0xF9]).setRp .hl 0xDFF0)
     t.cpu.sp = 0xDFF0#16 ∧ t.cycles = 8) := by decide
theorem test_r423_ls19_ls20 :
    (let t := after (((code b0 0x0100 [0xC5]).setRp .sp 0xFFFE).setRp .bc 0x1234)
     t.cpu.sp = 0xFFFC#16 ∧ t.peek 0xFFFD = 0x12#8 ∧ t.peek 0xFFFC = 0x34#8 ∧ t.cycles = 16) ∧
    (let t := after (((code b0 0x0100 [0xC5]).setRp .sp 0x0000).setRp .bc 0x1234)
     t.cpu.sp = 0xFFFE#16 ∧ t.peek 0xFFFE = 0x34#8 ∧ t.intr.ie = 0x12#8 ∧ t.cycles = 16) := by decide
theorem test_r424_ls21_ls22 :
    (let t := after ((((code b0 0x0100 [0xD1]).setRp .sp 0xFFFC).placeByte 0xFFFC 0x34).placeByte 0xFFFD 0x12)
     t.getRp .de = 0x1234#16 ∧ t.cpu.sp = 0xFFFE#16 ∧ t.cycles = 12) ∧
    (let t := after (((code b0 0x0100 [0xD1]).setRp .sp 0xFFFF).placeByte 0xFFFF 0x07)
     t.getR .e = 0x07#8 ∧ t.getR .d = 0x00#8 ∧ t.cpu.sp = 0x0001#16 ∧ t.cycles = 12) := by decide
theorem test_r425_ls23 :
    (let t := after ((((code b0 0x0100 [0xF1]).setRp .sp 0xFFFC).placeByte 0xFFFC 0xFF).placeByte 0xFFFD 0x12)
     t.getR .a = 0x12#8 ∧ t.cpu.f.toByte = 0xF0#8 ∧ t.cycles = 12) := by decide
theorem test_r510_a1_a2_a3 :
    (let t := after (((code b0 0x0100 [0x80]).setR .a 0x3A).setR .b 0xC6)
     t.getR .a = 0x00#8 ∧ t.cpu.f.toByte = 0xB0#8 ∧ t.cycles = 4) ∧
    (let t := after (((code b0 0x0100 [0x87]).setR .a 0x80).setFlags (Flags.ofByte 0x00))
     t.getR .a = 0x00#8 ∧ t.cpu.f.z = true ∧ t.cpu.f.n = false ∧ t.cpu.f.h = false ∧ t.cpu.f.c = true ∧ t.cycles = 4) ∧
    (let t := after ((code b0 0x0100 [0x87]).setR .a 0x08)
     t.getR .a = 0x10#8 ∧ t.cpu.f.z = false ∧ t.cpu.f.h = true ∧ t.cpu.f.c = false ∧ t.cycles = 4) := by decide
theorem test_r510_a4_a5 :
    (let t := after ((((code b0 0x0100 [0x86]).setR .a 0x01).setRp .hl 0xC000).placeByte 0xC000 0x02)
     t.getR .a = 0x03#8 ∧ t.cycles = 8) ∧
    (let t := after ((code b0 0x0100 [0xC6, 0x0F]).setR .a 0x01)
     t.getR .a = 0x10#8 ∧ t.cpu.f.h = true ∧ t.cpu.f.c = false ∧ t.cycles = 8) := by decide
theorem test_r511_a6_a7 :
    (let t := after ((((code b0 0x0100 [0x8B]).setR .a 0xE1).setR .e 0x0F).setFlags (Flags.ofByte 0x10))
     t.getR .a = 0xF1#8 ∧ t.cpu.f.z = false ∧ t.cpu.f.n = false ∧ t.cpu.f.h = true ∧ t.cpu.f.c = false ∧ t.cycles = 4) ∧
    (let t := after (((code b0 0x0100 [0xCE, 0x00]).setR .a 0xFF).setFlags (Flags.ofByte 0x10))
     t.getR .a = 0x00#8 ∧ t.cpu.f.z = true ∧ t.cpu.f.h = true ∧ t.cpu.f.c = true ∧ t.cycles = 8) := by decide
theorem test_r512_a8_a9_a10 :
    (let t := after (((code b0 0x0100 [0x93]).setR .a 0x3E).setR .e 0x3E)
     t.getR .a = 0x00#8 ∧ t.cpu.f.z = true ∧ t.cpu.f.n = true ∧ t.cpu.f.h = false ∧ t.cpu.f.c = false ∧ t.cycles = 4) ∧
    (let t := after ((code b0 0x0100 [0x97]).setR .a 0x5C)
     t.getR .a = 0x00#8 ∧ t.cpu.f.toByte = 0xC0#8 ∧ t.cycles = 4) ∧
    (let t := after ((code b0 0x0100 [0xD6, 0x01]).setR .a 0x00)
     t.getR .a = 0xFF#8 ∧ t.cpu.f.z = false ∧ t.cpu.f.n = true ∧ t.cpu.f.h = true ∧ t.cpu.f.c = true ∧ t.cycles = 8) := by decide
theorem test_r513_a11_a12_a13 :
    (let t := after ((((code b0 0x0100 [0x9C]).setR .a 0x3B).setR .h 0x2A).setFlags (Flags.ofByte 0x10))
     t.getR .a = 0x10#8 ∧ t.cpu.f.z = false ∧ t.cpu.f.n = true ∧ t.cpu.f.h = false ∧ t.cpu.f.c = false ∧ t.cycles = 4) ∧
    (let t := after (((code b0 0x0100 [0x9F]).setR .a 0x42).setFlags (Flags.ofByte 0x00))
     t.getR .a = 0x00#8 ∧ t.cpu.f.z = true ∧ t.cpu.f.h = false ∧ t.cpu.f.c = false ∧ t.cycles = 4) ∧
    (let t := after (((code b0 0x0100 [0x9F]).setR .a 0x42).setFlags (Flags.ofByte 0x10))
     t.getR .a = 0xFF#8 ∧ t.cpu.f.z = false ∧ t.cpu.f.h = true ∧ t.cpu.f.c = true ∧ t.cycles = 4) := by decide
theorem test_r513_a14 :
    (let t := after (((code b0 0x0100 [0xDE, 0xFF]).setR .a 0xFF).setFlags (Flags.ofByte 0x10))
     t.getR .a = 0xFF#8 ∧ t.cpu.f.h = true ∧ t.cpu.f.c = true ∧ t.cycles = 8) := by decide
theorem test_r514_a15_a16 :
    (let t := after (((code b0 0x0100 [0xA5]).setR .a 0x5A).setR .l 0x3F)
     t.getR .a = 0x1A#8 ∧ t.cpu.f.toByte = 0x20#8 ∧ t.cycles = 4) ∧
    (let t := after ((code b0 0x0100 [0xA7]).setR .a 0x00)
     t.getR .a = 0x00#8 ∧ t.cpu.f.toByte = 0xA0#8 ∧ t.cycles = 4) := by decide
theorem test_r515_a17_a18 :
    (let t := after ((code b0 0x0100 [0xEE, 0x0F]).setR .a 0xFF)
     t.getR .a = 0xF0#8 ∧ t.cpu.f.toByte = 0x00#8 ∧ t.cycles = 8) ∧
    (let t := after (((code b0 0x0100 [0xAF]).setR .a 0x9C).setFlags (Flags.ofByte 0x70))
     t.getR .a = 0x00#8 ∧ t.cpu.f.toByte = 0x80#8 ∧ t.cycles = 4) := by decide
theorem test_r516_a19 :
    (let t := after (((code b0 0x0100 [0xB0]).setR .a 0x00).setR .b 0x00)
     t.getR .a = 0x00#8 ∧ t.cpu.f.toByte = 0x80#8 ∧ t.cycles = 4) := by decide
theorem test_r517_a20_a21_a22 :
    (let t := after (((code b0 0x0100 [0xB8]).setR .a 0x3C).setR .b 0x2F)
     t.getR .a = 0x3C#8 ∧ t.cpu.f.z = false ∧ t.cpu.f.n = true ∧ t.cpu.f.h = true ∧ t.cpu.f.c = false ∧ t.cycles = 4) ∧
    (let t := after ((code b0 0x0100 [0xBF]).setR .a 0x3C)
     t.cpu.f.toByte = 0xC0#8 ∧ t.cycles = 4) ∧
    (let t := after ((code b0 0x0100 [0xFE, 0x40]).setR .a 0x3C)
     t.getR .a = 0x3C#8 ∧ t.cpu.f.z = false ∧ t.cpu.f.c = true ∧ t.cycles = 8) := by decide
theorem test_r518_a23_a24 :
    (let t := after (((code b0 0x0100 [0x3C]).setR .a 0xFF).setFlags (Flags.ofByte 0x00))
     t.getR .a = 0x00#8 ∧ t.cpu.f.z = true ∧ t.cpu.f.n = false ∧ t.cpu.f.h = true ∧ t.cpu.f.c = false ∧ t.cycles = 4) ∧
    (let t := after (((code b0 0x0100 [0x04]).setR .b 0x0F).setFlags (Flags.ofByte 0x10))
     t.getR .b = 0x10#8 ∧ t.cpu.f.z = false ∧ t.cpu.f.h = true ∧ t.cpu.f.c = true ∧ t.cycles = 4) := by decide
theorem test_r519_a25 :
    (let t := after (((code b0 0x0100 [0x34]).setRp .hl 0xC000).placeByte 0xC000 0x50)
     t.peek 0xC000 = 0x51#8 ∧ t.cpu.f.z = false ∧ t.cpu.f.n = false ∧ t.cpu.f.h = false ∧ t.cycles = 12) := by decide
theorem test_r520_a26_a27 :
    (let t := after ((code b0 0x0100 [0x2D]).setR .l 0x01)
     t.getR .l = 0x00#8 ∧ t.cpu.f.z = true ∧ t.cpu.f.n = true ∧ t.cpu.f.h = false ∧ t.cycles = 4) ∧
    (let t := after (((code b0 0x0100 [0x05]).setR .b 0x00).setFlags (Flags.ofByte 0x10))
     t.getR .b = 0xFF#8 ∧ t.cpu.f.z = false ∧ t.cpu.f.n = true ∧ t.cpu.f.h = true ∧ t.cpu.f.c = true ∧ t.cycles = 4) := by decide
theorem test_r521_a28 :
    (let t := after (((code b0 0x0100 [0x35]).setRp .hl 0xC000).placeByte 0xC000 0x00)
     t.peek 0xC000 = 0xFF#8 ∧ t.cpu.f.z = false ∧ t.cpu.f.n = true ∧ t.cpu.f.h = true ∧ t.cycles = 12) := by decide
theorem test_r522_a30_a31 :
    (let t := after (((code b0 0x0100 [0x27]).setR .a 0x9A).setFlags (Flags.ofByte 0x00))
     t.getR .a = 0x00#8 ∧ t.cpu.f.z = true ∧ t.cpu.f.n = false ∧ t.cpu.f.h = false ∧ t.cpu.f.c = true ∧ t.cycles = 4) ∧
    (let t := after (((code b0 0x0100 [0x27]).setR .a 0xFF).setFlags (Flags.ofByte 0x00))
     t.getR .a = 0x65#8 ∧ t.cpu.f.c = true ∧ t.cycles = 4) := by decide
theorem test_r523_a35_a36 :
    (let t := after (((code b0 0x0100 [0x2F]).setR .a 0x35).setFlags (Flags.ofByte 0x00))
     t.getR .a = 0xCA#8 ∧ t.cpu.f.n = true ∧ t.cpu.f.h = true ∧ t.cycles = 4) ∧
    (let t := after (((code b0 0x0100 [0x2F]).setR .a 0xFF).setFlags (Flags.ofByte 0x00))
     t.getR .a = 0x00#8 ∧ t.cpu.f.z = false ∧ t.cycles = 4) := by decide
theorem test_r524_a37 :
    (let t := after ((code b0 0x0100 [0x37]).setFlags (Flags.ofByte 0xF0))
     t.cpu.f.toByte = 0x90#8 ∧ t.cycles = 4) := by decide
theorem test_r525_a38_a39 :
    (let t := after ((code b0 0x0100 [0x3F]).setFlags (Flags.ofByte 0x70))
     t.cpu.f.toByte = 0x00#8 ∧ t.cycles = 4) ∧
    (let t := after ((code b0 0x0100 [0x3F]).setFlags (Flags.ofByte 0x80))
     t.cpu.f.toByte = 0x90#8 ∧ t.cycles = 4) := by decide
theorem test_r601_w1_w2_w3 :
    (let t := after ((((code b0 0x0100 [0x09]).setRp .hl 0x8A23).setRp .bc 0x0605).setFlags (Flags.ofByte 0x40))
     t.getRp .hl = 0x9028#16 ∧ t.cpu.f.n = false ∧ t.cpu.f.h = true ∧ t.cpu.f.c = false ∧ t.cycles = 8) ∧
    (let t := after ((code b0 0x0100 [0x29]).setRp .hl 0x8A23)
     t.getRp .hl = 0x1446#16 ∧ t.cpu.f.h = true ∧ t.cpu.f.c = true ∧ t.cycles = 8) ∧
    (let t := after ((((code b0 0x0100 [0x09]).setRp .hl 0xFFFF).setRp .bc 0x0001).setFlags (Flags.ofByte 0x00))
     t.getRp .hl = 0x0000#16 ∧ t.cpu.f.z = false ∧ t.cpu.f.h = true ∧ t.cpu.f.c = true ∧ t.cycles = 8) := by decide
theorem test_r601_w4 :
    (let t := after (((code b0 0x0100 [0x39]).setRp .hl 0x0FFF).setRp .sp 0x0001)
     t.getRp .hl = 0x1000#16 ∧ t.cpu.f.h = true ∧ t.cpu.f.c = false ∧ t.cycles = 8) := by decide
theorem test_r602_w5_w6 :
    (let t := after ((code b0 0x0100 [0x13]).setRp .de 0x235F)
     t.getRp .de = 0x2360#16 ∧ t.cycles = 8) ∧
    (let t := after ((code b0 0x0100 [0x33]).setRp .sp 0xFFFF)
     t.cpu.f.toByte = 0xB0#8 ∧ t.cpu.sp = 0x0000#16 ∧ t.cycles = 8) := by decide
theorem test_r603_w7_w8 :
    (let t := after (((code b0 0x0100 [0x0B]).setRp .bc 0x0001).setFlags (Flags.ofByte 0x00))
     t.cpu.f.toByte = 0x00#8 ∧ t.getRp .bc = 0x0000#16 ∧ t.cycles = 8) ∧
    (let t := after ((code b0 0x0100 [0x0B]).setRp .bc 0x0000)
     t.cpu.f.toByte = 0xB0#8 ∧ t.getRp .bc = 0xFFFF#16 ∧ t.cycles = 8) := by decide
theorem test_r605_w9_w10_w11 :
    (let t := after ((code b0 0x0100 [0xE8, 0x02]).setRp .sp 0xFFF8)
     t.cpu.f.toByte = 0x00#8 ∧ t.cpu.sp = 0xFFFA#16 ∧ t.cycles = 16) ∧
    (let t := after ((code b0 0x0100 [0xE8, 0xFF]).setRp .sp 0x00FF)
     t.cpu.sp = 0x00FE#16 ∧ t.cpu.f.z = false ∧ t.cpu.f.n = false ∧ t.cpu.f.h = true ∧ t.cpu.f.c = true ∧ t.cycles = 16) ∧
    (let t := after (((code b0 0x0100 [0xE8, 0x00]).setRp .sp 0x1234).setFlags (Flags.ofByte 0xF0))
     t.cpu.f.toByte = 0x00#8 ∧ t.cpu.sp = 0x1234#16 ∧ t.cycles = 16) := by decide
theorem test_r605_w12 :
    (let t := after ((code b0 0x0100 [0xE8, 0xFF]).setRp .sp 0x0000)
     t.cpu.sp = 0xFFFF#16 ∧ t.cpu.f.h = false ∧ t.cpu.f.c = false ∧ t.cycles = 16) := by decide
theorem test_r606_w13_w14 :
    (let t := after ((code b0 0x0100 [0xF8, 0x02]).setRp .sp 0xFFF8)
     t.cpu.f.toByte = 0x00#8 ∧ t.getRp .hl = 0xFFFA#16 ∧ t.cpu.sp = 0xFFF8#16 ∧ t.cycles = 12) ∧
    (let t := after ((code b0 0x0100 [0xF8, 0x01]).setRp .sp 0x000F)
     t.getRp .hl = 0x0010#16 ∧ t.cpu.f.h = true ∧ t.cpu.f.c = false ∧ t.cycles = 12) := by decide
theorem test_r701_b1_b2 :
    (let t := after ((code b0 0x0100 [0x07]).setR .a 0x85)
     t.getR .a = 0x0B#8 ∧ t.cpu.f.toByte = 0x10#8 ∧ t.cycles = 4) ∧
    (let t := after (((code b0 0x0100 [0x07]).setR .a 0x00).setFlags (Flags.ofByte 0x80))
     t.getR .a = 0x00#8 ∧ t.cpu.f.toByte = 0x00#8 ∧ t.cycles = 4) := by decide
theorem test_r702_b3 :
    (let t := after ((code b0 0x0100 [0x0F]).setR .a 0x3B)
     t.getR .a = 0x9D#8 ∧ t.cpu.f.toByte = 0x10#8 ∧ t.cycles = 4) := by decide
theorem test_r703_b4_b5 :
    (let t := after (((code b0 0x0100 [0x17]).setR .a 0x95).setFlags (Flags.ofByte 0x10))
     t.getR .a = 0x2B#8 ∧ t.cpu.f.toByte = 0x10#8 ∧ t.cycles = 4) ∧
    (let t := after (((code b0 0x0100 [0x17]).setR .a 0x80).setFlags (Flags.ofByte 0x00))
     t.getR .a = 0x00#8 ∧ t.cpu.f.toByte = 0x10#8 ∧ t.cycles = 4) := by decide
theorem test_r704_b6_b7 :
    (let t := after (((code b0 0x0100 [0x1F]).setR .a 0x81).setFlags (Flags.ofByte 0x00))
     t.getR .a = 0x40#8 ∧ t.cpu.f.toByte = 0x10#8 ∧ t.cycles = 4) ∧
    (let t := after (((code b0 0x0100 [0x1F]).setR .a 0x01).setFlags (Flags.ofByte 0x00))
     t.getR .a = 0x00#8 ∧ t.cpu.f.toByte = 0x10#8 ∧ t.cycles = 4) := by decide
theorem test_r711_b8_b9_b10 :
    (let t := after ((code b0 0x0100 [0xCB, 0x00]).setR .b 0x85)
     t.getR .b = 0x0B#8 ∧ t.cpu.f.toByte = 0x10#8 ∧ t.cycles = 8) ∧
    (let t := after ((code b0 0x0100 [0xCB, 0x00]).setR .b 0x00)
     t.getR .b = 0x00#8 ∧ t.cpu.f.toByte = 0x80#8 ∧ t.cycles = 8) ∧
    (let t := after (((code b0 0x0100 [0xCB, 0x06]).setRp .hl 0xC000).placeByte 0xC000 0x85)
     t.cpu.f.toByte = 0x10#8 ∧ t.peek 0xC000 = 0x0B#8 ∧ t.cycles = 16) := by decide
theorem test_r712_b11 :
    (let t := after ((code b0 0x0100 [0xCB, 0x09]).setR .c 0x01)
     t.getR .c = 0x80#8 ∧ t.cpu.f.toByte = 0x10#8 ∧ t.cycles = 8) := by decide
theorem test_r713_b12 :
    (let t := after (((code b0 0x0100 [0xCB, 0x15]).setR .l 0x80).setFlags (Flags.ofByte 0x00))
     t.getR .l = 0x00#8 ∧ t.cpu.f.toByte = 0x90#8 ∧ t.cycles = 8) := by decide
theorem test_r714_b13 :
    (let t := after (((code b0 0x0100 [0xCB, 0x1F]).setR .a 0x01).setFlags (Flags.ofByte 0x00))
     t.getR .a = 0x00#8 ∧ t.cpu.f.toByte = 0x90#8 ∧ t.cycles = 8) := by decide
theorem test_r715_b14_b15 :
    (let t := after ((code b0 0x0100 [0xCB, 0x22]).setR .d 0xFF)
     t.getR .d = 0xFE#8 ∧ t.cpu.f.toByte = 0x10#8 ∧ t.cycles = 8) ∧
    (let t := after ((code b0 0x0100 [0xCB, 0x22]).setR .d 0x80)
     t.getR .d = 0x00#8 ∧ t.cpu.f.toByte = 0x90#8 ∧ t.cycles = 8) := by decide
theorem test_r716_b16_b17_b18 :
    (let t := after ((code b0 0x0100 [0xCB, 0x2F]).setR .a 0x8A)
     t.getR .a = 0xC5#8 ∧ t.cpu.f.toByte = 0x00#8 ∧ t.cycles = 8) ∧
    (let t := after ((code b0 0x0100 [0xCB, 0x2F]).setR .a 0x01)
     t.getR .a = 0x00#8 ∧ t.cpu.f.toByte = 0x90#8 ∧ t.cycles = 8) ∧
    (let t := after ((code b0 0x0100 [0xCB, 0x2F]).setR .a 0xFF)
     t.getR .a = 0xFF#8 ∧ t.cpu.f.toByte = 0x10#8 ∧ t.cycles = 8) := by decide
theorem test_r717_b19_b20 :
    (let t := after (((code b0 0x0100 [0xCB, 0x37]).setR .a 0xF0).setFlags (Flags.ofByte 0x10))
     t.getR .a = 0x0F#8 ∧ t.cpu.f.toByte = 0x00#8 ∧ t.cycles = 8) ∧
    (let t := after ((code b0 0x0100 [0xCB, 0x37]).setR .a 0x00)
     t.getR .a = 0x00#8 ∧ t.cpu.f.toByte = 0x80#8 ∧ t.cycles = 8) := by decide
theorem test_r718_b21_b22 :
    (let t := after ((code b0 0x0100 [0xCB, 0x3F]).setR .a 0xFF)
     t.getR .a = 0x7F#8 ∧ t.cpu.f.toByte = 0x10#8 ∧ t.cycles = 8) ∧
    (let t := after ((code b0 0x0100 [0xCB, 0x3F]).setR .a 0x01)
     t.getR .a = 0x00#8 ∧ t.cpu.f.toByte = 0x90#8 ∧ t.cycles = 8) := by decide
theorem test_r719_b23_b24_b25 :
    (let t := after (((code b0 0x0100 [0xCB, 0x7C]).setR .h 0x80).setFlags (Flags.ofByte 0x40))
     t.cpu.f.z = false ∧ t.cpu.f.n = false ∧ t.cpu.f.h = true ∧ t.cycles = 8) ∧
    (let t := after (((code b0 0x0100 [0xCB, 0x65]).setR .l 0xEF).setFlags (Flags.ofByte 0x10))
     t.cpu.f.z = true ∧ t.cpu.f.c = true ∧ t.cycles = 8) ∧
    (let t := after (((code b0 0x0100 [0xCB, 0x46]).setRp .hl 0xC000).placeByte 0xC000 0x01)
     t.cpu.f.z = false ∧ t.cycles = 12) := by decide
theorem test_r720_b26_b27 :
    (let t := after ((code b0 0x0100 [0xCB, 0xBF]).setR .a 0x80)
     t.getR .a = 0x00#8 ∧ t.cpu.f.toByte = 0xB0#8 ∧ t.cycles = 8) ∧
    (let t := after (((code b0 0x0100 [0xCB, 0x86]).setRp .hl 0xC000).placeByte 0xC000 0xFF)
     t.peek 0xC000 = 0xFE#8 ∧ t.cycles = 16) := by decide
theorem test_r721_b28 :
    (let t := after (((code b0 0x0100 [0xCB, 0xDE]).setRp .hl 0xC000).placeByte 0xC000 0x00)
     t.peek 0xC000 = 0x08#8 ∧ t.cycles = 16) := by decide
theorem test_r801_ct1 :
    (let t := after (code b0 0x0100 [0xC3, 0x50, 0x01])
     t.cpu.pc = 0x0150#16 ∧ t.cycles = 16) := by decide
theorem test_r802_ct2_ct3 :
    (let t := after ((code b0 0x0100 [0xC2, 0x00, 0x02]).setFlags (Flags.ofByte 0x80))
     t.cpu.pc = 0x0103#16 ∧ t.cycles = 12) ∧
    (let t := after ((code b0 0x0100 [0xC2, 0x00, 0x02]).setFlags (Flags.ofByte 0x00))
     t.cpu.pc = 0x0200#16 ∧ t.cycles = 16) := by decide
theorem test_r803_ct4 :
    (let t := after ((code b0 0x0100 [0xE9]).setRp .hl 0xC000)
     t.cpu.pc = 0xC000#16 ∧ t.cycles = 4) := by decide
theorem test_r804_ct5_ct6_ct7 :
    (let t := after (code b0 0x0200 [0x18, 0x05])
     t.cpu.pc = 0x0207#16 ∧ t.cycles = 12) ∧
    (let t := after (code b0 0x0200 [0x18, 0xFD])
     t.cpu.pc = 0x01FF#16 ∧ t.cycles = 12) ∧
    (let t := after (code b0 0x0200 [0x18, 0xFE])
     t.cpu.pc = 0x0200#16 ∧ t.cycles = 12) := by decide
theorem test_r804_ct8 :
    (let t := after (code b0 0x0200 [0x18, 0x00])
     t.cpu.pc = 0x0202#16 ∧ t.cycles = 12) := by decide
theorem test_r805_ct10_ct11 :
    (let t := after ((code b0 0x0300 [0x30, 0xFE]).setFlags (Flags.ofByte 0x00))
     t.cpu.pc = 0x0300#16 ∧ t.cycles = 12) ∧
    (let t := after ((code b0 0x0300 [0x30, 0xFE]).setFlags (Flags.ofByte 0x10))
     t.cpu.pc = 0x0302#16 ∧ t.cycles = 8) := by decide
theorem test_r806_ct12 :
    (let t := after ((code b0 0x0150 [0xCD, 0x34, 0x12]).setRp .sp 0xFFFE)
     t.cpu.pc = 0x1234#16 ∧ t.cpu.sp = 0xFFFC#16 ∧ t.peek 0xFFFD = 0x01#8 ∧ t.peek 0xFFFC = 0x53#8 ∧ t.cycles = 24) := by decide
theorem test_r807_ct13_ct14 :
    (let t := after (((code b0 0x0150 [0xCC, 0x00, 0x20]).setRp .sp 0xFFFE).setFlags (Flags.ofByte 0x80))
     t.cpu.pc = 0x2000#16 ∧ t.cpu.sp = 0xFFFC#16 ∧ t.peek 0xFFFD = 0x01#8 ∧ t.peek 0xFFFC = 0x53#8 ∧ t.cycles = 24) ∧
    (let t := after (((code b0 0x0150 [0xCC, 0x00, 0x20]).setRp .sp 0xFFFE).setFlags (Flags.ofByte 0x00))
     t.cpu.pc = 0x0153#16 ∧ t.cpu.sp = 0xFFFE#16 ∧ t.cycles = 12) := by decide
theorem test_r811_ct15 :
    (let t := after ((code b0 0x0400 [0xEF]).setRp .sp 0xD000)
     t.cpu.pc = 0x0028#16 ∧ t.cpu.sp = 0xCFFE#16 ∧ t.peek 0xCFFF = 0x04#8 ∧ t.peek 0xCFFE = 0x01#8 ∧ t.cycles = 16) := by decide
theorem test_r808_ct16 :
    (let t := after ((((code b0 0x0100 [0xC9]).setRp .sp 0xFFFC).placeByte 0xFFFC 0x53).placeByte 0xFFFD 0x01)
     t.cpu.pc = 0x0153#16 ∧ t.cpu.sp = 0xFFFE#16 ∧ t.cycles = 16) := by decide
theorem test_r809_ct17_ct18 :
    (let t := after (((((code b0 0x0100 [0xD0]).setRp .sp 0xFFFC).placeByte 0xFFFC 0x53).placeByte 0xFFFD 0x01).setFlags (Flags.ofByte 0x00))
     t.cpu.pc = 0x0153#16 ∧ t.cpu.sp = 0xFFFE#16 ∧ t.cycles = 20) ∧
    (let t := after (((code b0 0x0100 [0xD0]).setRp .sp 0xFFFC).setFlags (Flags.ofByte 0x10))
     t.cpu.pc = 0x0101#16 ∧ t.cpu.sp = 0xFFFC#16 ∧ t.cycles = 8) := by decide
theorem test_r810_ct19 :
    (let t := after (((((code b0 0x0100 [0xD9]).setIme false).setRp .sp 0xFFFC).placeByte 0xFFFC 0x50).placeByte 0xFFFD 0x01)
     t.cpu.pc = 0x0150#16 ∧ t.cpu.sp = 0xFFFE#16 ∧ t.cpu.ime = true ∧ t.cycles = 16) := by decide

theorem test_h5_halt : let t := after (irq (code b0 0x0100 [0x76, 0x3C]) 0x04 0)
    t.cpu.run = .halted ∧ t.cpu.pc = 0x0101 ∧ t.cycles = 4 := by decide
theorem test_h13_halt_after_ei : let t := after ((irq (code b0 0x0101 [0x76]) 0x01 1).setEiPending true)
    t.cpu.haltBug = true ∧ t.cpu.run = .running ∧ t.cpu.ime = true := by decide
theorem test_h2_halt_bug_step : let t := after (((irq (code b0 0x0201 [0x3C]) 0x01 1).setHaltBug true).setR .a 0x00)
    t.cpu.a = 0x01 ∧ t.cpu.pc = 0x0201 ∧ t.cpu.haltBug = false := by decide
theorem test_h4_halt_bug_cb : let t := after ((code b0 0x0101 [0xCB, 0x00]).setHaltBug true)
    t.cpu.e = 0xDA ∧ t.cpu.pc = 0x0102 := by decide
theorem test_h6_wake_and_dispatch : let t := after (((irq (b0.setPc 0x0101) 0x04 4).setIme true).setRun .halted)
    t.cpu.pc = 0x0050 ∧ t.cpu.sp = 0xFFFC ∧ t.peek 0xFFFD = 0x01 ∧ t.peek 0xFFFC = 0x01 ∧ t.intr.iflag = 0 ∧
      t.cpu.ime = false ∧ t.cycles = 20 := by decide
theorem test_h7_stop : let t := after (code b0 0x0100 [0x10, 0x00])
    t.cpu.pc = 0x0102 ∧ t.cpu.run = .stopped ∧ t.timer.divCounter = 4 := by decide
theorem test_h8_stopped_idles_and_wakes :
    (let t := after ((code b0 0x0102 [0x3C]).setRun .stopped)
     t.cpu.run = .stopped ∧ t.cpu.a = 0x01 ∧ t.timer.divCounter = 0xAB00 ∧ t.cycles = 4) ∧
      (let t := after (State.setButtons ((code b0 0x0102 [0x3C]).setRun .stopped) 0x01)
       t.cpu.run = .running ∧ t.cpu.a = 0x02 ∧ t.cpu.pc = 0x0103) := by decide
theorem test_h9_di : let t := after ((code b0 0x0100 [0xF3]).setIme true)
    t.cpu.ime = false ∧ t.cpu.eiPending = false := by decide
theorem test_h10_di_after_ei : let t := after ((code b0 0x0101 [0xF3]).setEiPending true)
    t.cpu.ime = false ∧ t.cpu.eiPending = false := by decide
theorem test_h11_ei : let t := after (irq (code b0 0x0100 [0xFB]) 0x04 4)
    t.cpu.ime = false ∧ t.cpu.eiPending = true := by decide
theorem test_h11_nop_after_ei : let t := after ((irq (code b0 0x0101 [0x00]) 0x04 4).setEiPending true)
    t.cpu.ime = true ∧ t.cpu.eiPending = false ∧ t.cpu.pc = 0x0102 := by decide
theorem test_h12_ei_after_ei : (after ((code b0 0x0101 [0xFB]).setEiPending true)).cpu.ime = true := by decide
theorem test_h14_illegal : let t := after (code b0 0x0150 [0xD3])
    t.cpu.run = .faulted ∧ t.cpu.fault = some { addr := 0x0150, opcode := 0xD3 } ∧ t.cpu.pc = 0x0150 ∧ t.cycles = 0 := by
  decide
theorem test_h15_permissive : let t := after { code b0 0x0150 [0xD3] with launch :=
      { (code b0 0x0150 [0xD3]).launch with params := { permissiveIllegal := true } } }
    t.cpu.run = .running ∧ t.cpu.pc = 0x0151 ∧ t.cycles = 4 := by decide
theorem test_i2_priority : let t := after ((irq b0 0x1F 0x1E).setIme true)
    t.cpu.pc = 0x0048 ∧ t.intr.iflag = 0x1C := by decide
theorem test_i3_enabled_only : let t := after ((irq b0 0x10 0x13).setIme true)
    t.cpu.pc = 0x0060 ∧ t.intr.iflag = 0x03 := by decide
theorem test_i5_stack_wraps_over_ie : let t := after (((irq b0 0x01 1).setIme true).setSp 0x0001)
    t.cpu.pc = 0x0040 ∧ t.cpu.sp = 0xFFFF ∧ t.intr.ie = 0x00 := by decide
theorem test_t2_timer_overflow :
    let t := State.advanceDevices 4
      { b0 with intr := { iflag := 0, ie := 0 }, timer := { divCounter := 0x1C, tac := 5, tima := 0xFF, tma := 0x30 } }
    t.timer.tima = 0x30 ∧ t.intr.iflag = 4 := by decide
theorem test_t3_div_write :
    let s : State := { b0 with timer := { divCounter := 0x0200, tac := 4, tima := 0, tma := 0 } }
    let t := s.busWrite 0xFF04 0x99
    t.timer.divCounter = 0 ∧ t.timer.tima = 1 := by decide
theorem test_t4_tac_write :
    let s : State := { b0 with timer := { divCounter := 0x0008, tac := 5, tima := 0x10, tma := 0 } }
    let t := s.busWrite 0xFF07 0x00
    t.timer.tac = 0 ∧ t.timer.tima = 0x11 := by decide
theorem test_j2_button_falls : let t := State.setButtons (irq b0 0 0 |>.busWrite 0xFF00 0x10) 0x10
    t.intr.iflag = 0x10 ∧ t.peek 0xFF00 = 0xDE := by decide
theorem test_j4_select_falls :
    let s : State := { irq b0 0 0 with joypad := { select := 0b01, buttons := 0x01 } }
    let t := s.busWrite 0xFF00 0x20
    t.intr.iflag = 0x10 ∧ t.peek 0xFF00 = 0xEE := by decide
theorem test_j5_no_select : let t := State.setButtons (b0.busWrite 0xFF00 0x30) 0xFF
    t.intr.iflag = 1 ∧ t.peek 0xFF00 = 0xFF := by decide
theorem test_p6_lcd_off : let t := State.reset.busWrite 0xFF40 0x11
    t.ppu.ly = 0 ∧ t.ppu.mode = .hblank ∧ t.peek 0xFF41 = 0x84 := by decide
theorem test_p4_lyc : let t := State.ppuTick { irq State.reset 0 0 with ppu :=
      { State.reset.ppu with ly := 1, dot := 455, mode := .hblank, lyc := 2, statEnables := 0b1000, statCoincidence := false } }
    t.ppu.ly = 2 ∧ t.intr.iflag = 2 ∧ t.ppu.statCoincidence = true := by decide
theorem test_p7_background : let s := (State.reset.placeByte 0x8000 0x80).placeByte 0x8001 0x80
    let t : State := { s with ppu := { s.ppu with bgp := 0xE4 } }
    (List.range 10).map (t.pixelShade [] 0) = [3, 0, 0, 0, 0, 0, 0, 0, 3, 0] := by decide
theorem test_p8_object : let s := (State.reset.placeByte 0x8010 0xFF).placeBytes 0xFE00 [16, 12, 1, 0]
    let t : State := { s with ppu := { s.ppu with lcdc := 0x93, bgp := 0xE4, obp0 := 0xE4 } }
    ([3, 4, 11, 12] : List Nat).map (t.pixelShade (t.lineObjects 0) 0) = [0, 1, 1, 0] := by decide
theorem test_m12_dma : let t := (b0.busWrite 0xC09F 0xC5).busWrite 0xFF46 0xC0
    t.peek 0xFE9F = 0xC5 ∧ t.dma = 0xC0 := by decide

/-! ## The state of reset and the host's interface -/

theorem test_reset_inv : State.reset.Inv = true := by decide
theorem test_reset_reads : [0xFF00, 0xFF02, 0xFF04, 0xFF07, 0xFF0F, 0xFF40, 0xFF41, 0xFF46, 0xFF47].map State.reset.peek =
    [0xCF, 0x7E, 0xAB, 0xF8, 0xE1, 0x91, 0x86, 0xFF, 0xFC] := by decide
theorem test_reset_af : State.reset.af = 0x01B0 := by decide
theorem test_withFetchWord_op : (after (State.reset.withFetchWord 8 0x3C)).cpu.a = 0x02 := by decide
theorem test_withFetchWord_cb : (after (State.reset.withFetchWord 16 0xCBC7)).cpu.a = 0x01 := by decide
theorem test_withFetchWord_d16 : (after (State.reset.withFetchWord 24 0x1234C3)).cpu.pc = 0x1234 := by decide
theorem test_withFetchWord_opcode_only : (after (State.reset.withFetchWord 8 0xC3)).cpu.pc = 0x0000 := by decide

/-- An image of a length with a mapper type, a ROM-size code and a RAM-size code. -/
def image (len : Nat) (ty sz rs : Byte) : RomImage where
  length := len
  cells := Memory.write (Memory.write (Memory.write [] 0x147 ty) 0x148 sz) 0x149 rs

/-- The machine that Load makes of an image, or reset where Load refuses. -/
def loaded (r : RomImage) : State :=
  match load r {} InitArgs.base with
  | .next t => t
  | _ => State.reset

theorem test_m9_truncated : load (image 0x14F 0 0 0) {} InitArgs.base = .fault .loadTruncated := rfl
theorem test_m10_mbc2 : load (image 0x8000 5 0 0) {} InitArgs.base = .fault (.loadUnsupportedMapper 5) := rfl
theorem test_m11_rom_size : load (image 0x8000 0 9 0) {} InitArgs.base = .fault .loadBadHeader := rfl
theorem test_load_mbc5_rumble : (loaded (image 0x8000 0x1E 8 4)).launch.cart =
    { mapper := .mbc5, rumble := true, battery := true, romBanks := 512, ramSize := 131072 } := by decide

/-- Restore takes the state and leaves the ROM image, the parameters and the draws (R165, R1097). -/
theorem test_restore :
    let saved := { b0.setR .b 0x77 with draws := 9 }
    let t := restore (snapshot saved) (loaded (image 0x8000 1 0 0))
    t.cpu.b = 0x77 ∧ t.launch.cart.mapper = .mbc1 ∧ t.draws = 0 := by decide

/-! ## Witnesses: for each obligation with hypotheses, a state and operands that meet them; for each clause one at a boundary -/

/-- A cartridge's machine with one mapper setting. -/
def withMapper (s : State) (m : MapperRegs) : State := { s with mapper := m }

/-- The PPU moved, with the LCD as LCDC says. -/
def ppuAt (s : State) (lcdc : Byte) (ly : Byte) (dot : Nat) (m : PpuMode) : State :=
  { s with ppu := { s.ppu with lcdc := lcdc, ly := ly, dot := dot, mode := m } }

/-- STAT's enables set. -/
def withEnables (s : State) (e : BitVec 4) : State := { s with ppu := { s.ppu with statEnables := e } }

/-- The same machine under STAT_IRQ_MODEL = line. -/
def lineModel (s : State) : State := { s with launch := { s.launch with params := { statIrqModel := .line } } }

theorem test_witness_DecodedBytesEncodeBack : decode [0x3E, 0x05, 0xFF] = .ok (.ldAD8 0x05, [0xFF]) := by decide

theorem test_witness_LoadsOfTheAccumulator :
    (Instr.ldhAIndA8 0xFF, [0xF0#8, 0xFF#8], 0xFFFF#16, 12) ∈ [
      (Instr.ldAIndBc, [0x0A#8], cat b0.cpu.b b0.cpu.c, 8), (Instr.ldAIndDe, [0x1A#8], cat b0.cpu.d b0.cpu.e, 8),
      (Instr.ldAIndA16 0xFFFF, [0xFA#8, lo 0xFFFF, hi 0xFFFF], 0xFFFF#16, 16),
      (Instr.ldhAIndC, [0xF2#8], 0xFF#8 ++ b0.cpu.c, 8), (Instr.ldhAIndA8 0xFF, [0xF0#8, 0xFF#8], 0xFF#8 ++ 0xFF#8, 12)] ∧
    (Instr.ldAIndHli, 0x2A#8, 1#16) ∈ [(Instr.ldAIndHld, 0x3A#8, 0xFFFF#16), (Instr.ldAIndHli, 0x2A#8, 1#16)] := by decide

theorem test_witness_StoresOfTheAccumulator :
    (Instr.ldhIndA8A 0x00, [0xE0#8, 0x00#8], 0xFF00#16, 12) ∈ [
      (Instr.ldIndBcA, [0x02#8], cat b0.cpu.b b0.cpu.c, 8), (Instr.ldIndDeA, [0x12#8], cat b0.cpu.d b0.cpu.e, 8),
      (Instr.ldIndA16A 0xFFFF, [0xEA#8, lo 0xFFFF, hi 0xFFFF], 0xFFFF#16, 16),
      (Instr.ldhIndCA, [0xE2#8], 0xFF#8 ++ b0.cpu.c, 8), (Instr.ldhIndA8A 0x00, [0xE0#8, 0x00#8], 0xFF#8 ++ 0x00#8, 12)] ∧
    (Instr.ldIndHliA, 0x22#8, 1#16) ∈ [(Instr.ldIndHldA, 0x32#8, 0xFFFF#16), (Instr.ldIndHliA, 0x22#8, 1#16)] := by decide

theorem test_witness_PopAfterPushGivesThePair :
    (let s := b0.setSp 0xC002
     region (s.cpu.sp - 1) ∈ [Region.wram, Region.hram] ∧ region (s.cpu.sp - 2) ∈ [Region.wram, Region.hram]) ∧
    (let s := b0.setSp 0xFFFF
     region (s.cpu.sp - 1) ∈ [Region.wram, Region.hram] ∧ region (s.cpu.sp - 2) ∈ [Region.wram, Region.hram]) := by decide

theorem test_witness_AddAndAddWithCarry : (Alu.adc = .add ∨ Alu.adc = .adc) ∧ (Alu.add = .add ∨ Alu.add = .adc) := by decide
theorem test_witness_SubtractAndCompare : ∀ op ∈ [Alu.sub, Alu.sbc, Alu.cp], op = .sub ∨ op = .sbc ∨ op = .cp := by decide
theorem test_witness_AndXorOr : ∀ op ∈ [Alu.and, Alu.xor, Alu.or], op = .and ∨ op = .xor ∨ op = .or := by decide

theorem test_witness_RotateAccumulator : (Instr.rra, 0x1F#8, Rot.rr) ∈ [(Instr.rlca, 0x07#8, Rot.rlc),
    (Instr.rrca, 0x0F#8, Rot.rrc), (Instr.rla, 0x17#8, Rot.rl), (Instr.rra, 0x1F#8, Rot.rr)] := by decide

theorem test_witness_Jumps_CallsAndRestarts_Returns :
    (b0.cpu.f.z = true ∧ b0.cpu.f.c = true) ∧ ¬ b0.cpu.f.z = false ∧ ¬ b0.cpu.f.c = false := by decide

theorem test_witness_HaltAndStop :
    (b0.setIme true).cpu.ime = true ∧
    (∀ k, k < 5 → (b0.intr.ie.getLsbD k && b0.intr.iflag.getLsbD k) = false) ∧
    (let s := irq b0 0x10 0x10
     s.cpu.ime = false ∧ ∃ k, k < 5 ∧ (s.intr.ie.getLsbD k && s.intr.iflag.getLsbD k) = true) := by decide

theorem test_witness_IllegalOpcodes : b0.launch.params.permissiveIllegal = false ∧
    ({ b0 with launch := { b0.launch with params := { permissiveIllegal := true } } } : State).launch.params.permissiveIllegal
      = true := by decide

theorem test_witness_StepRunsTheDecodedInstruction :
    let s := code b0 0x0100 [0xFA, 0x00, 0xC0]
    s.cpu.run = .running ∧ ¬ (s.cpu.ime = true ∧ s.pending ≠ 0) ∧ decoded s.fetchedBytes = some (.ldAIndA16 0xC000) := by decide

theorem test_witness_FetchReadsAndAdvances :
    let s := (code b0 0xFFFE [0x18, 0x05]).setHaltBug true
    instrLength s.opcode = 2 ∧ isAudio s.cpu.pc = false ∧ s.fetchedBytes = [0x18, 0x18] := by decide

theorem test_witness_InterruptIsTaken :
    (let s := (irq b0 0x1F 0x11).setIme true
     s.cpu.run = .running ∧ s.cpu.ime = true ∧ (s.intr.ie.getLsbD 0 && s.intr.iflag.getLsbD 0) = true) ∧
    (let s := (irq b0 0x10 0x1F).setIme true
     s.cpu.run = .running ∧ s.cpu.ime = true ∧ (s.intr.ie.getLsbD 4 && s.intr.iflag.getLsbD 4) = true ∧
       ∀ j, j < 4 → (s.intr.ie.getLsbD j && s.intr.iflag.getLsbD j) = false) := by decide

theorem test_witness_HaltedAndStoppedSteps :
    ((b0.setRun .halted).cpu.run = .halted ∧ (b0.setRun .halted).pending = 0) ∧
    (let s := (irq b0 0x01 1).setRun .halted
     s.pending ≠ 0 ∧ s.launch.params.haltWakeExtraT = 0 ∧ (after (s.setRun .running)).cpu.run ≠ .faulted) ∧
    joypadLines (b0.setRun .stopped).joypad = 0xF#4 ∧
    joypadLines (State.setButtons (b0.setRun .stopped) 0x01).joypad ≠ 0xF#4 := by decide

theorem test_witness_EnableTakesEffectOneInstructionLate :
    (let s := (code b0 0x0100 [0x00]).setEiPending true
     s.cpu.run = .running ∧ ¬ (s.cpu.ime = true ∧ s.pending ≠ 0) ∧ s.cpu.eiPending = true ∧ (after s).cpu.ime = true) ∧
    (let s := (code b0 0x0100 [0xF3]).setEiPending true
     s.cpu.run = .running ∧ s.cpu.eiPending = true ∧ (after s).cpu.eiPending = false ∧ (after s).cpu.ime = false) ∧
    (let s := code b0 0x0100 [0xFB]
     s.cpu.run = .running ∧ s.cpu.eiPending = false ∧ (after s).cpu.eiPending = true ∧ (after s).cpu.ime = false) := by decide

theorem test_witness_DecodeErrorStopsTheMachine :
    (let s := code b0 0x0100 [0xFD]
     s.cpu.run = .running ∧ ¬ (s.cpu.ime = true ∧ s.pending ≠ 0) ∧ s.launch.params.permissiveIllegal = false ∧
       s.peek s.cpu.pc ∈ [0xD3#8, 0xDB#8, 0xDD#8, 0xE3#8, 0xE4#8, 0xEB#8, 0xEC#8, 0xED#8, 0xF4#8, 0xFC#8, 0xFD#8]) ∧
    (b0.setRun .faulted).cpu.run = .faulted := by decide

theorem test_witness_StepCostIsBounded :
    (after (code b0 0x0100 [0xD3])).cpu.run = .faulted ∧
    (let t := after (code b0 0x0100 [0xCD, 0x00, 0x02])
     t.cpu.run ≠ .faulted ∧ t.cycles = 24) ∧
    (let t := after (code b0 0x0100 [0x00])
     t.cpu.run ≠ .faulted ∧ t.cycles = 4) := by decide

theorem test_witness_StepKeepsRomAndButtons : ∃ t, step State.reset = .next t := ⟨_, rfl⟩
theorem test_witness_StepKeepsMemoryForm : State.reset.memOk = true ∧ ∃ t, step State.reset = .next t :=
  ⟨by decide, _, rfl⟩
theorem test_witness_StepKeepsPpuForm : State.reset.ppuOk = true ∧ ∃ t, step State.reset = .next t :=
  ⟨by decide, _, rfl⟩
theorem test_witness_StepKeepsControlAndMapperForm :
    State.reset.controlOk = true ∧ State.reset.mapperOk = true ∧ ∃ t, step State.reset = .next t :=
  ⟨by decide, by decide, _, rfl⟩

theorem test_witness_LoadAndResetMeetTheInvariant :
    Memory.wf [(0x8000, 1), (0xFFFE, 2)] = true ∧ Memory.within (placeOk 0) [(0x8000, 1), (0xFFFE, 2)] = true := by decide

theorem test_witness_LoadChecksTheHeader :
    (image 0x14F 0 0 0).length < 0x150 ∧
    (0x150 ≤ (image 0x150 5 0 0).length ∧ mapperType (romByte (image 0x150 5 0 0) 0x147) = none) ∧
    (romByte (image 0x150 0 9 0) 0x148).toNat > 8 ∧ (romByte (image 0x150 0 0 6) 0x149).toNat > 5 ∧
    ((romByte (image 0x150 0x1E 8 5) 0x148).toNat ≤ 8 ∧ (romByte (image 0x150 0x1E 8 5) 0x149).toNat ≤ 5 ∧
      (loaded (image 0x150 0x1E 8 5)).launch.cart.ramSize = 65536) := by decide

theorem test_witness_TimerCountsOnFallingEdges :
    (let s : State := { b0 with timer := { divCounter := 0xFFFF, tima := 0xFF, tma := 0x12, tac := 4 } }
     s.timerTick.timer.tima = 0x12 ∧ s.divWrite.timer.tima = 0x12 ∧ (s.tacWrite 0).timer.tima = 0x12) ∧
    (let s : State := { b0 with timer := { divCounter := 0x0000, tima := 0xFF, tma := 0x12, tac := 4 } }
     s.timerTick.timer.tima = 0xFF ∧ s.divWrite.timer.tima = 0xFF ∧ (s.tacWrite 0).timer.tima = 0xFF) := by decide

theorem test_witness_TimerRate :
    let s : State := { b0 with timer := { divCounter := 0x000F, tima := 0xFE, tma := 0, tac := 5 } }
    s.timer.tac.getLsbD 2 = true ∧ s.timer.tima.toNat + (15 + 1) / 16 ≤ 255 ∧ (s.timerTick).timer.tima = 0xFF := by decide

theorem test_witness_FramePositionAdvances :
    (State.reset.lcdOn = true ∧ State.reset.ppuPositionOk = true) ∧
    (let s := ppuAt State.reset 0x91 153 455 .vblank
     s.lcdOn = true ∧ s.ppuPositionOk = true ∧ (s.ppuTick.ppu.ly = 0 ∧ s.ppuTick.ppu.dot = 0)) := by decide

theorem test_witness_VblankEntry :
    (let s := ppuAt b0 0x91 143 455 .hblank
     s.lcdOn = true ∧ s.ppu.ly = 143 ∧ s.ppu.dot = 455) ∧
    (let s := ppuAt b0 0x91 143 454 .hblank
     s.lcdOn = true ∧ ¬ (s.ppu.ly = 143 ∧ s.ppu.dot = 455)) ∧
    (let s := ppuAt b0 0x91 144 455 .vblank
     s.lcdOn = true ∧ ¬ (s.ppu.ly = 143 ∧ s.ppu.dot = 455)) := by decide

theorem test_witness_StatRequests :
    (State.reset.launch.params.statIrqModel = .events ∧ State.reset.lcdOn = true ∧ b0.lcdOn = false) ∧
    (let s := withEnables (ppuAt (irq b0 0 0) 0x91 0 251 .pixelTransfer) 0b0001
     s.ppu.dot + 1 = 80 + s.launch.params.mode3T ∧ s.ppuTick.intr.iflag = 0b00010) ∧
    (let s := withEnables (ppuAt (irq b0 0 0) 0x91 143 455 .hblank) 0b0010
     s.ppuTick.intr.iflag = 0b00011) ∧
    (let s := withEnables (ppuAt (irq b0 0 0) 0x91 153 455 .vblank) 0b0100
     s.ppuTick.intr.iflag = 0b00010) ∧
    (withEnables (ppuAt (irq b0 0 0) 0x91 144 455 .vblank) 0b0111).ppuTick.intr.iflag = 0 := by decide

theorem test_witness_StatRequests_line :
    let s := lineModel (irq State.reset 0 0)
    s.launch.params.statIrqModel = .line ∧ (s.busWrite 0xFF41 0x20).intr.iflag.getLsbD 1 = true ∧
      (s.busWrite 0xFF41 0x08).intr.iflag.getLsbD 1 = false := by decide

theorem test_switch_on_line_model :
    ((withEnables (lineModel (irq b0 0 0)) 0b0100).busWrite 0xFF40 0x80).intr.iflag = 0 ∧
    ((withEnables (lineModel (irq b0 0 0)) 0b1100).busWrite 0xFF40 0x80).intr.iflag = 0b00010 := by decide

theorem test_witness_LcdSwitch :
    (State.reset.lcdOn = true ∧ (0x7F#8).getLsbD 7 = false) ∧ (b0.lcdOn = false ∧ (0x80#8).getLsbD 7 = true) ∧
    State.reset.lcdOn = (0x80#8).getLsbD 7 ∧ b0.lcdOn = (0x7F#8).getLsbD 7 := by decide

theorem test_witness_OamDmaCopies :
    (let t := (b0.busWrite 0xDD00 0x5A).busWrite 0xFF46 0xFD
     (0xFD#8).toNat < 0xFE ∧ Memory.read t.mem 0xFE00 = 0x5A) ∧ ¬ (0xFE#8).toNat < 0xFE ∧
    ¬ (0xFE00 ≤ 0xFEA0 ∧ 0xFEA0 ≤ 0xFE9F) := by decide

theorem test_witness_ReadAfterWriteAndEcho :
    [0xC000, 0xDFFF, 0xE000, 0xFDFF, 0xFF80, 0xFFFE, 0xFFFF].map region =
      [Region.wram, Region.wram, Region.echo, Region.echo, Region.hram, Region.hram, Region.ie] ∧
    (region 0x9FFF = .vram ∧ b0.vramReadBlocked = false ∧ b0.vramWriteBlocked = false) ∧
    (region 0xFE9F = .oam ∧ b0.oamBlocked = false) ∧
    (region 0xBFFF = .extRam ∧ (loaded (image 0x8000 0x08 0 2)).extRamOn = true) ∧
    (b0.busWrite 0xFDFF 0x3C).peek 0xDDFF = 0x3C ∧ 0x1DFF ≤ 0x1DFF := by decide

theorem test_witness_BlockedAndUnusedRanges :
    (let s := ppuAt b0 0x91 0 80 .pixelTransfer
     s.lcdOn = true ∧ s.launch.params.vramReadBlock = true ∧ s.launch.params.oamBlock = true ∧ s.peek 0x8000 = 0xFF ∧
       s.peek 0x9FFF = 0xFF ∧ s.peek 0xFE00 = 0xFF ∧ s.peek 0xFE9F = 0xFF) ∧
    (let s := ppuAt { b0 with launch := { b0.launch with params := { vramReadBlock := false } } } 0x91 0 80 .pixelTransfer
     s.lcdOn = true ∧ s.launch.params.vramReadBlock = false ∧ s.peek 0x9FFF = 0x00) ∧
    b0.peek 0xFEA0 = 0xFF ∧ b0.peek 0xFEFF = 0xFF := by decide

theorem test_witness_RomWritesAreMapperCommands :
    (0x7FFF#16).toNat ≤ 0x7FFF ∧ b0.launch.cart.mapper = .romOnly ∧
    (loaded (image 0x8000 1 0 0)).launch.cart.mapper = .mbc1 := by decide

theorem test_witness_Mbc1Banking :
    let s := loaded (image 0x8000 1 1 0)
    s.launch.cart.mapper = .mbc1 ∧ s.launch.cart.romBanksOk = true ∧ 0x3FFF < 0x4000 ∧
    ((s.busWrite 0x0000 0x0A).mapper.ramEnabled = true ∧ (s.busWrite 0x1FFF 0x1A).mapper.ramEnabled = true) ∧
    ((s.busWrite 0x2000 0x20).mapper.lower = 1 ∧ (s.busWrite 0x3FFF 0x1F).mapper.lower = 0x1F) ∧
    ((s.busWrite 0x4000 0x03).mapper.upper = 3 ∧ (s.busWrite 0x5FFF 0x04).mapper.upper = 0) ∧
    ((s.busWrite 0x6000 0x01).mapper.mode = true ∧ (s.busWrite 0x7FFF 0x02).mapper.mode = false) ∧
    (withMapper s { s.mapper with lower := 5, upper := 3 }).bankX = (3 * 32 + 5) % 4 := by decide

theorem test_witness_Mbc3AndMbc5Banking :
    (let s := loaded (image 0x8000 0x11 6 0)
     s.launch.cart.mapper = .mbc3 ∧ s.launch.cart.romBanksOk = true ∧
     (s.busWrite 0x2000 0x80).mapper.romBank = 1 ∧ (s.busWrite 0x3FFF 0xFF).mapper.romBank = 0x7F ∧
     (s.busWrite 0x4000 0x08).mapper.ramSel = 0x08 ∧ (s.busWrite 0x5FFF 0xFF).mapper.ramSel = 0xFF ∧
     (s.busWrite 0x6000 0x01).mapper = s.mapper ∧ (s.busWrite 0x1FFF 0x0A).mapper.ramEnabled = true) ∧
    (let s := loaded (image 0x8000 0x19 8 0)
     s.launch.cart.mapper = .mbc5 ∧ s.launch.cart.romBanksOk = true ∧
     (s.busWrite 0x1FFF 0x1A).mapper.ramEnabled = false ∧ (s.busWrite 0x2FFF 0x00).mapper.romBank = 0 ∧
     (s.busWrite 0x3000 0x01).mapper.romBank = 0x101 ∧ (s.busWrite 0x4000 0xFF).mapper.ramSel = 0x0F ∧
     (s.busWrite 0x7FFF 0xFF).mapper = s.mapper) ∧
    ((loaded (image 0x8000 0x1C 8 0)).busWrite 0x5FFF 0xFF).mapper.ramSel = 0x07 := by decide

theorem test_witness_ExternalRam :
    (let s := loaded (image 0x8000 0x08 0 1)
     s.launch.cart.ramSizeOk = true ∧ s.extRamOn = true ∧ (s.busWrite 0xA800 0x11).peek 0xA000 = 0x11) ∧
    (b0.launch.cart.ramSize = 0 ∧ b0.peek 0xBFFF = 0xFF) ∧
    (let s := loaded (image 0x8000 0x03 0 3)
     s.extRamOn = false ∧ s.peek 0xA000 = 0xFF ∧
     (withMapper s { s.mapper with ramEnabled := true, upper := 3, mode := true }).place 0xBFFF = some (0x10000 + 0x7FFF)) ∧
    (let s := loaded (image 0x8000 0x12 0 3)
     (withMapper s { s.mapper with ramEnabled := true, ramSel := 3 }).extRamOn = true ∧
       (withMapper s { s.mapper with ramEnabled := true, ramSel := 8 }).peek 0xA000 = 0xFF) := by decide

theorem test_witness_IoRegistersReadAndStore :
    [0xFF03#16, 0xFF08#16, 0xFF0E#16, 0xFF4C#16, 0xFF7F#16].all (fun a => (b0.busWrite a 0x12).peek a == 0xFF) = true ∧
    (isAudio 0xFF10 = true ∧ isAudio 0xFF3F = true ∧ isAudio 0xFF0F = false ∧ isAudio 0xFF40 = false) ∧
    [0xFF01#16, 0xFF05#16, 0xFF06#16, 0xFF40#16, 0xFF45#16, 0xFF4B#16, 0xFFFF#16].all
      (fun a => (b0.busWrite a 0x81).peek a == 0x81) = true := by decide

/-- One object, its tile all of index 1, at columns 4 to 11 of line 0; LCDC as given. -/
def oneObject (lcdc : Byte) : State :=
  let s := (State.reset.placeByte 0x8010 0xFF).placeBytes 0xFE00 [16, 12, 1, 0]
  { s with ppu := { s.ppu with lcdc := lcdc, bgp := 0xE4, obp0 := 0xE4 } }

theorem test_witness_ComposeLineWritesItsRow :
    0 < State.reset.ppu.framebuffer.length ∧ 143 < State.reset.ppu.framebuffer.length ∧
    ((ppuAt b0 0x00 0 0 .hblank).ppu.lcdc.getLsbD 0 = false ∧ (ppuAt b0 0x00 0 0 .hblank).ppu.lcdc.getLsbD 1 = false) ∧
    ((oneObject 0x93).candidate 0 4 0 ∧ (oneObject 0x93).candidate 0 11 0 ∧ ¬ (oneObject 0x93).candidate 0 3 0 ∧
      ¬ (oneObject 0x93).candidate 0 12 0) ∧
    ((oneObject 0xB1).windowOn 0 ∧ ¬ (oneObject 0x91).windowOn 0) := by
  simp only [State.candidate, State.entrySelected, State.windowOn]
  decide

theorem test_witness_ComposeLineWritesItsRow_no_object : ∀ i, ¬ (oneObject 0x91).candidate 0 4 i :=
  fun _ h => absurd h.1 (by decide)

theorem test_witness_ComposeLineWritesItsRow_winner : ∀ j, (oneObject 0x93).candidate 0 4 j →
    ((oneObject 0x93).oamField 0 1).toNat < ((oneObject 0x93).oamField j 1).toNat ∨
      ((oneObject 0x93).oamField 0 1).toNat = ((oneObject 0x93).oamField j 1).toNat ∧ 0 ≤ j := by
  intro j h
  have k : (List.range 40).all (fun j => decide (((oneObject 0x93).oamField j 0).toNat = 0 ∨ j = 0)) = true := by decide
  have hj := List.all_eq_true.1 k j (List.mem_range.2 h.2.1.1)
  have hl := h.2.1.2.1
  simp only [State.entryOnLine, decide_eq_true_eq] at hj hl
  have hr : (oneObject 0x93).objRows = 8 := rfl
  rcases hj with hj | hj
  · omega
  · subst hj; exact .inr ⟨rfl, Nat.le_refl 0⟩


end Sys2Proof.Tests
end

section
/-! Work RAM and high RAM as plain storage (20_memory.md R216): an access there reads or stores one byte of memory, so that a pop
gives back what a push put on the stack. -/

namespace Sys2Proof.Machine

/-! ## Accesses to work RAM and high RAM -/

/-- Work RAM and high RAM are stored at the address itself (R216). -/
theorem State.place_of_ram (s : State) (a : Word) (h : region a ∈ [Region.wram, Region.hram]) :
    s.place a = some a.toNat := by
  unfold State.place
  rcases List.mem_pair.1 h with hr | hr <;> rw [hr]

theorem isAudio_of_ram (a : Word) (h : region a ∈ [Region.wram, Region.hram]) : isAudio a = false := by
  rcases List.mem_pair.1 h with hr | hr <;> simp [isAudio, hr]

/-- Nothing blocks a read of work RAM or high RAM, and no device answers it (R216). -/
theorem State.peek_of_ram (s : State) (a : Word) (h : region a ∈ [Region.wram, Region.hram]) :
    s.peek a = Memory.read s.mem a.toNat := by
  have hs : s.stored a = Memory.read s.mem a.toNat := by rw [State.stored, s.place_of_ram a h]
  unfold State.peek State.busRead
  rcases List.mem_pair.1 h with hr | hr <;> rw [hr] <;> exact hs

/-- Nothing blocks a write of work RAM or high RAM, and no device takes it (R216). -/
theorem State.busWrite_of_ram (s : State) (a : Word) (v : Byte) (h : region a ∈ [Region.wram, Region.hram]) :
    s.busWrite a v = s.store a.toNat v := by
  have hs : s.storeAt a v = s.store a.toNat v := by rw [State.storeAt, s.place_of_ram a h]
  unfold State.busWrite
  rcases List.mem_pair.1 h with hr | hr <;> rw [hr] <;> exact hs

/-! ## The stack in work RAM and high RAM -/

theorem State.push16_mem_of_ram (s : State) (w : Word) (h1 : region (s.cpu.sp - 1) ∈ [Region.wram, Region.hram])
    (h2 : region (s.cpu.sp - 2) ∈ [Region.wram, Region.hram]) :
    (s.push16 w).mem =
      Memory.write (Memory.write s.mem (s.cpu.sp - 1).toNat (hi w)) (s.cpu.sp - 2).toNat (lo w) := by
  rw [State.push16_eq, State.busWrite_of_ram _ _ _ h1, State.busWrite_of_ram _ _ _ h2]
  rfl

theorem State.popValue_of_ram (s : State) (h0 : region s.cpu.sp ∈ [Region.wram, Region.hram])
    (h1 : region (s.cpu.sp + 1) ∈ [Region.wram, Region.hram]) :
    s.popValue = cat (Memory.read s.mem (s.cpu.sp + 1).toNat) (Memory.read s.mem s.cpu.sp.toNat) := by
  rw [State.popValue, s.afterRead_of_not_audio _ (isAudio_of_ram _ h0), s.peek_of_ram _ h0, s.peek_of_ram _ h1]

/-- `Pop16()` right after `Push16(w)` gives `w` back (R13): the two bytes have places of their own, so the low byte's write leaves
the high byte. -/
theorem State.popValue_push16_of_ram (s : State) (w : Word) (n : Nat)
    (h1 : region (s.cpu.sp - 1) ∈ [Region.wram, Region.hram])
    (h2 : region (s.cpu.sp - 2) ∈ [Region.wram, Region.hram]) : ((s.push16 w).tick n).popValue = w := by
  have hsp : ((s.push16 w).tick n).cpu.sp = s.cpu.sp - 2 := by simp
  have hup : s.cpu.sp - 2 + 1 = s.cpu.sp - 1 := by bv_omega
  have hne : (s.cpu.sp - 1).toNat ≠ (s.cpu.sp - 2).toNat := by bv_omega
  rw [State.popValue_of_ram _ (by rwa [hsp]) (by rwa [hsp, hup]), hsp, hup, State.tick_mem,
    s.push16_mem_of_ram w h1 h2, Memory.read_write_other _ _ _ _ hne, Memory.read_write_same,
    Memory.read_write_same, cat_hi_lo]

/-! ## Reading back a pair that was written -/

/-- Masking the low byte of a word is masking the word with a high byte of ones. -/
theorem cat_and_low (x y m : Byte) : cat x (y &&& m) = cat x y &&& cat 0xFF#8 m := by
  have hx : x &&& 0xFF#8 = x := BitVec.and_allOnes
  unfold cat
  rw [BitVec.and_append, hx]

/-- AF keeps of a written word all but bits 3-0 (R106). -/
@[simp] theorem State.af_setAf (s : State) (w : Word) : (s.setAf w).af = w &&& 0xFFF0#16 :=
  calc (s.setAf w).af = cat (hi w) (lo w &&& 0xF0#8) := congrArg (cat (hi w)) (Flags.toByte_ofByte (lo w))
    _ = cat (hi w) (lo w) &&& cat 0xFF#8 0xF0#8 := cat_and_low _ _ _
    _ = w &&& 0xFFF0#16 := by rw [cat_hi_lo]; rfl

/-- A pair written is the pair read, but for bits 3-0 of AF. -/
theorem State.getRp2_setRp2 (s : State) (q : Rp2) (w : Word) :
    (s.setRp2 q w).getRp2 q = if q = .af then w &&& 0xFFF0#16 else w := by
  cases q <;> simp [State.setRp2, State.getRp2]

/-! ## The two instructions -/

/-- `PUSH rr` is the stack transfer of its pair (R423). -/
theorem exec_pushPair (r : Rp2) (s : State) : exec (Instr.pushPair r) s = pushPair r s := by cases r <;> rfl

/-- `POP rr` is the stack transfer of its pair (R424, R425). -/
theorem exec_popPair (r : Rp2) (s : State) : exec (Instr.popPair r) s = popPair r s := by cases r <;> rfl

/-- Settles O11: the pop reads the two bytes that the push stored, and writes their word to its pair. -/
theorem popAfterPushGivesThePair : Obligations.PopAfterPushGivesThePair := by
  intro r q s h1 h2
  refine ⟨_, _, exec_pushPair r s, exec_popPair q _, ?_, ?_⟩
  · simp only [State.tick_cpu, State.setRp2_sp, State.afterPop_cpu, State.push16_cpu, BitVec.sub_add_cancel]
  · rw [State.getRp2_tick, State.getRp2_setRp2, s.popValue_push16_of_ram _ _ h1 h2]

end Sys2Proof.Machine
end

section
/-! What each piece of a step keeps, and so every step: the launch and the host's buttons (10_state.md R163, 20_memory.md R205), and
the memory's form (10_state.md R162, 20_memory.md R200). -/

namespace Sys2Proof.Machine

/-! ## The launch and the buttons -/

theorem Piece.launch_eq {s t : State} (h : Piece s t) : t.launch = s.launch := by
  cases h with
  | write a v => exact s.busWrite_launch a v
  | device => exact s.deviceTick_launch
  | _ => rfl

theorem Piece.buttons_eq {s t : State} (h : Piece s t) : t.joypad.buttons = s.joypad.buttons := by
  cases h with
  | write a v => exact s.busWrite_buttons a v
  | device => rw [s.deviceTick_joypad]
  | _ => rfl

/-- Settles O36: no piece of a step changes either. -/
theorem stepKeepsRomAndButtons : Obligations.StepKeepsRomAndButtons := fun s _ hst =>
  @step_keep (fun u => u.launch = s.launch ∧ u.joypad.buttons = s.joypad.buttons)
    (fun _ _ p h => ⟨p.launch_eq.trans h.1, p.buttons_eq.trans h.2⟩) _ _ hst ⟨rfl, rfl⟩

/-! ## The memory's form -/

theorem State.memOk_congr {s t : State} (hm : t.mem = s.mem) (hl : t.launch = s.launch) : t.memOk = s.memOk := by
  unfold State.memOk; rw [hm, hl]

theorem State.oamDma_memOk (s : State) (v : Byte) (h : s.memOk = true) : (s.oamDma v).memOk = true := by
  have key : ∀ l : List Nat, (∀ k ∈ l, k < 160) → ∀ u : State, u.memOk = true →
      (l.foldl (State.oamDmaByte v) u).memOk = true := by
    intro l
    induction l with
    | nil => exact fun _ _ hu => hu
    | cons k l ih =>
      intro hl u hu
      rw [List.forall_mem_cons] at hl
      exact ih hl.2 _ (State.oamDmaByte_memOk v u k hl.1 hu)
  exact key _ (fun _ => List.mem_range.1) s h

/-- A bus write stores in a place that exists, or in OAM, or not at all. -/
theorem State.busWrite_memOk (s : State) (a : Word) (v : Byte) (h : s.memOk = true) : (s.busWrite a v).memOk = true := by
  rcases s.busWrite_cases a v with e | ⟨-, e⟩ | ⟨p, hp, e⟩ | ⟨-, e⟩ | ⟨-, e⟩
  · rwa [e]
  · rwa [e, State.memOk_congr (s.mapperWrite_mem a v) (s.mapperWrite_launch a v)]
  · rw [e]; exact s.store_memOk p v h (s.place_ok a p hp)
  · by_cases hd : ioReg a = .dma
    · rw [e, hd]; exact State.oamDma_memOk _ v h
    · rwa [State.memOk_congr (by rw [e, s.ioWrite_mem _ v hd]) (s.busWrite_launch a v)]
  · rwa [e]

theorem Piece.memOk {s t : State} (p : Piece s t) (h : s.memOk = true) : t.memOk = true := by
  cases p with
  | write a v => exact s.busWrite_memOk a v h
  | device => rwa [State.memOk_congr s.deviceTick_mem s.deviceTick_launch]
  | _ => exact h

/-- Settles O37: of the pieces of a step only the bus write touches memory, and it stores where a byte exists. -/
theorem stepKeepsMemoryForm : Obligations.StepKeepsMemoryForm := fun _ _ h hst =>
  @step_keep (fun u => u.memOk = true) (fun _ _ p => p.memOk) _ _ hst h

end Sys2Proof.Machine
end

section
/-! The PPU's form (60_exceptions.md R1100-R1118) through a tick, a register write and a step. -/

namespace Sys2Proof.Machine

/-! ## The form's parts -/

theorem State.ppuOk_parts (s : State) : s.ppuOk = true ↔
    s.ppuPositionOk = true ∧ s.coincidenceOk = true ∧ s.winLineOk = true ∧ s.framesOk = true := by
  simp [State.ppuOk, and_assoc]

theorem State.ppuOk_congr {s t : State} (hp : t.ppu = s.ppu) (hl : t.launch = s.launch) : t.ppuOk = s.ppuOk := by
  unfold State.ppuOk State.ppuPositionOk State.coincidenceOk State.winLineOk State.framesOk State.lcdOn
  rw [hp, hl]

theorem State.coincidenceOk_of_off (s : State) (h : s.lcdOn = false) : s.coincidenceOk = true := by
  simp [State.coincidenceOk, h]

/-- The compare makes the coincidence bit right and leaves the other parts as they were (R1106). -/
theorem State.lycCompare_ppuOk (s : State) (hp : s.ppuPositionOk = true) (hw : s.winLineOk = true)
    (hf : s.framesOk = true) : s.lycCompare.ppuOk = true := by
  rw [State.ppuOk_parts]
  cases h : s.lcdOn with
  | false =>
    rw [s.lycCompare_off h]
    exact ⟨hp, s.coincidenceOk_of_off h, hw, hf⟩
  | true =>
    unfold State.ppuPositionOk State.coincidenceOk State.winLineOk State.framesOk State.lcdOn at *
    rw [s.lycCompare_ppu h, s.lycCompare_launch]
    exact ⟨hp, by simp, hw, hf⟩

/-! ## A tick -/

/-- A tick within a line moves the mode to where the new dot puts it (R1100, R1101). -/
theorem State.tickMode_eq (s : State) (h : s.ppu.mode = lineMode s.launch.params.mode3T s.ppu.ly.toNat s.ppu.dot) :
    s.tickMode = lineMode s.launch.params.mode3T s.ppu.ly.toNat (s.ppu.dot + 1) := by
  unfold State.tickMode
  rw [h]
  unfold lineMode
  split_ifs <;> first | rfl | omega

theorem State.tickWithin_ppuOk (s : State) (ho : s.lcdOn = true) (hd : s.ppu.dot + 1 ≠ 456) (h : s.ppuOk = true) :
    s.tickWithin.ppuOk = true := by
  rw [State.ppuOk_iff, State.ppuPositionOk_iff] at *
  obtain ⟨⟨hdot, hly, hmode, -⟩, hrest⟩ := h
  rw [s.tickWithin_lcdOn, s.tickWithin_ppu, s.tickWithin_launch]
  exact ⟨⟨by dsimp only; omega, hly, fun _ => s.tickMode_eq (hmode ho), fun hn => by simp [ho] at hn⟩, hrest⟩

/-- The row composed at the end of a visible line has 160 shades (R1110, R1117). -/
theorem State.lineDone_framesOk (s : State) (h : s.framesOk = true) : s.lineDone.framesOk = true := by
  simp only [State.framesOk, Bool.and_eq_true, s.lineDone_ppu] at h ⊢
  refine ⟨?_, h.2⟩
  split
  · exact Frame.shaped_set _ _ _ h.1 (s.lineShades_length _)
  · exact h.1

theorem State.winLineOk_iff (s : State) : s.winLineOk = true ↔
    (s.ppu.ly.toNat < 144 → s.ppu.winLine ≤ s.ppu.ly.toNat) ∧ (144 ≤ s.ppu.ly.toNat → s.ppu.winLine = 0) := by
  unfold State.winLineOk
  split <;> simp only [decide_eq_true_eq, beq_iff_eq] <;> omega

theorem State.lineDone_winLineOk (s : State) (hly : s.ppu.ly.toNat < 154) (hn : (s.ppu.ly.toNat + 1) % 154 ≠ 144)
    (h : s.winLineOk = true) : s.lineDone.winLineOk = true := by
  have hnext := nextWinLine_le s.ppu s.ppu.ly.toNat
  rw [State.winLineOk_iff] at h ⊢
  simp only [s.lineDone_ppu, nextLy_toNat]
  split <;> omega

theorem lineMode_zero (mode3T ly : Nat) : lineMode mode3T ly 0 = if 144 ≤ ly then .vblank else .oamScan := by
  simp [lineMode]

/-- At the start of a line the mode is V-blank or mode 2 (R1100). -/
theorem State.ppuPositionOk_of_lineStart (s : State) (ho : s.lcdOn = true) (hd : s.ppu.dot = 0)
    (hly : s.ppu.ly.toNat < 154) (hm : s.ppu.mode = if 144 ≤ s.ppu.ly.toNat then .vblank else .oamScan) :
    s.ppuPositionOk = true := by
  rw [State.ppuPositionOk_iff, hd, lineMode_zero]
  exact ⟨by decide, hly, fun _ => hm, fun hn => by simp [ho] at hn⟩

/-- The position of an LCD that is off (R1118). -/
theorem State.ppuPositionOk_of_off (s : State) (ho : s.lcdOn = false) (hm : s.ppu.mode = .hblank) (hly : s.ppu.ly = 0)
    (hd : s.ppu.dot = 0) : s.ppuPositionOk = true := by
  simp [State.ppuPositionOk, ho, hm, hly, hd]

theorem State.endLine_ppuOk (s : State) (ho : s.lcdOn = true) (hly : s.ppu.ly.toNat < 154)
    (hm : 144 ≤ s.ppu.ly.toNat → s.ppu.mode = .vblank) (hw : s.winLineOk = true) (hf : s.framesOk = true) :
    s.endLine.ppuOk = true := by
  have hon : s.lineDone.lcdOn = true := by rw [s.lineDone_lcdOn, ho]
  have hd : s.lineDone.ppu.dot = 0 := by rw [s.lineDone_ppu]
  have hn : s.lineDone.ppu.ly.toNat = (s.ppu.ly.toNat + 1) % 154 := by rw [s.lineDone_ppu, nextLy_toNat]
  have hpic := s.lineDone_framesOk hf
  rw [s.endLine_eq, ← hn]
  by_cases h144 : s.lineDone.ppu.ly.toNat = 144
  · rw [if_pos h144]
    refine State.lycCompare_ppuOk _ (State.ppuPositionOk_of_lineStart _ ?_ ?_ ?_ ?_) ?_ ?_
    · simpa [State.lcdOn] using hon
    · simpa using hd
    · simp [h144]
    · simp [h144]
    · simp [State.winLineOk_iff]
    · simp only [State.framesOk, Bool.and_eq_true, State.enterVblank_ppu] at hpic ⊢
      exact ⟨hpic.1, hpic.1⟩
  · have hwin := s.lineDone_winLineOk hly (hn ▸ h144) hw
    rw [if_neg h144]
    by_cases hvis : s.lineDone.ppu.ly.toNat < 144
    · rw [if_pos hvis]
      refine State.lycCompare_ppuOk _ (State.ppuPositionOk_of_lineStart _ ?_ ?_ ?_ ?_) ?_ ?_
      · simpa using hon
      · simpa using hd
      · simp; omega
      · simp [Nat.not_le.2 hvis]
      · simpa [State.winLineOk] using hwin
      · simpa [State.framesOk] using hpic
    · rw [if_neg hvis]
      refine State.lycCompare_ppuOk _ (State.ppuPositionOk_of_lineStart _ hon hd (by omega) ?_) hwin hpic
      rw [if_pos (by omega), s.lineDone_ppu]
      exact hm (by omega)

theorem State.ppuAdvance_ppuOk (s : State) (ho : s.lcdOn = true) (h : s.ppuOk = true) : s.ppuAdvance.ppuOk = true := by
  rw [s.ppuAdvance_eq]
  split
  · obtain ⟨hp, -, hw, hf⟩ := s.ppuOk_parts.1 h
    obtain ⟨-, hly, hmode, -⟩ := s.ppuPositionOk_iff.1 hp
    have ht := s.tickWithin_ppu
    refine State.endLine_ppuOk _ (by rw [s.tickWithin_lcdOn, ho]) (by rw [ht]; exact hly) ?_ ?_ ?_
    · rw [ht]
      intro hy
      exact (s.tickMode_eq (hmode ho)).trans (if_pos hy)
    · unfold State.winLineOk; rw [ht]; exact hw
    · unfold State.framesOk; rw [ht]; exact hf
  · exact s.tickWithin_ppuOk ho ‹_› h

theorem State.deviceTick_ppuOk (s : State) (h : s.ppuOk = true) : s.deviceTick.ppuOk = true := by
  rw [← State.ppuOk_congr s.timerTick_ppu s.timerTick_launch] at h
  unfold State.deviceTick State.ppuTick
  split
  · rw [State.ppuOk_congr (State.statEdge_ppu _ _) (State.statEdge_launch _ _)]
    exact State.ppuAdvance_ppuOk _ ‹_› h
  · exact h

/-! ## The registers -/

/-- The line the LCD switch restarts is at its start, or at the position of an LCD that is off (R1118). -/
theorem State.lcdcWrite_ppuOk (s : State) (v : Byte) (h : s.ppuOk = true) : (s.lcdcWrite v).ppuOk = true := by
  have hf := (s.ppuOk_parts.1 h).2.2.2
  by_cases hv : s.lcdOn = v.getLsbD 7
  · rw [s.lcdcWrite_same v hv]
    have hon : State.lcdOn { s with ppu := { s.ppu with lcdc := v } } = s.lcdOn := hv.symm
    rw [State.ppuOk_iff, State.ppuPositionOk_iff] at h ⊢
    rw [hon]
    exact h
  · cases hs : s.lcdOn with
    | true =>
      have hoff : v.getLsbD 7 = false := by simpa [hs] using hv
      rw [s.lcdcWrite_off v hs hoff, State.ppuOk_parts]
      exact ⟨State.ppuPositionOk_of_off _ hoff rfl rfl rfl, State.coincidenceOk_of_off _ hoff, rfl, hf⟩
    | false =>
      have hon : v.getLsbD 7 = true := by simpa [hs] using hv
      rw [s.lcdcWrite_on v hs hon, State.ppuOk_congr (State.switchOnEdge_ppu _) (State.switchOnEdge_launch _)]
      exact State.lycCompare_ppuOk _ (State.ppuPositionOk_of_lineStart _ hon rfl (show (0#8).toNat < 154 by decide) rfl) rfl hf

theorem State.lycWrite_ppuOk (s : State) (v : Byte) (h : s.ppuOk = true) : (s.lycWrite v).ppuOk = true := by
  obtain ⟨hp, -, hw, hf⟩ := s.ppuOk_parts.1 h
  unfold State.lycWrite
  rw [State.ppuOk_congr (State.statEdge_ppu _ _) (State.statEdge_launch _ _)]
  exact State.lycCompare_ppuOk _ hp hw hf

theorem State.statWrite_ppuOk (s : State) (v : Byte) (h : s.ppuOk = true) : (s.statWrite v).ppuOk = true := by
  unfold State.statWrite
  rw [State.ppuOk_congr (State.statEdge_ppu _ _) (State.statEdge_launch _ _)]
  exact h

/-- Of the I/O registers only LCDC, STAT and LYC reach the PPU's form. -/
theorem State.ioWrite_ppuOk (s : State) (r : IoReg) (v : Byte) (h : s.ppuOk = true) : (s.ioWrite r v).ppuOk = true := by
  cases r with
  | lcdc => exact s.lcdcWrite_ppuOk v h
  | stat => exact s.statWrite_ppuOk v h
  | lyc => exact s.lycWrite_ppuOk v h
  | p1 => rwa [State.ioWrite, State.ppuOk_congr (s.p1Write_ppu v) (s.p1Write_launch v)]
  | div => rwa [State.ioWrite, State.ppuOk_congr s.divWrite_ppu s.divWrite_launch]
  | tac => rwa [State.ioWrite, State.ppuOk_congr (s.tacWrite_ppu _) (s.tacWrite_launch _)]
  | dma => rwa [State.ioWrite, State.ppuOk_congr (State.oamDma_ppu _ v) (State.oamDma_launch _ v)]
  | _ => exact h

theorem State.busWrite_ppuOk (s : State) (a : Word) (v : Byte) (h : s.ppuOk = true) : (s.busWrite a v).ppuOk = true := by
  rcases s.busWrite_cases a v with e | ⟨-, e⟩ | ⟨p, -, e⟩ | ⟨-, e⟩ | ⟨-, e⟩ <;> rw [e]
  · exact h
  · rwa [State.ppuOk_congr (s.mapperWrite_ppu a v) (s.mapperWrite_launch a v)]
  · exact h
  · exact s.ioWrite_ppuOk _ v h
  · exact h

theorem Piece.ppuOk {s t : State} (p : Piece s t) (h : s.ppuOk = true) : t.ppuOk = true := by
  cases p with
  | write a v => exact s.busWrite_ppuOk a v h
  | device => exact s.deviceTick_ppuOk h
  | _ => exact h

/-- Settles O38: of the pieces of a step only a device tick and a bus write reach the PPU, and both keep its form. -/
theorem stepKeepsPpuForm : Obligations.StepKeepsPpuForm := fun _ _ h hst =>
  @step_keep (fun u => u.ppuOk = true) (fun _ _ p => p.ppuOk) _ _ hst h

end Sys2Proof.Machine
end

section
/-! The control latches and the cost of a step (10_state.md R123-R125, 60_exceptions.md R1000, R1040), from how an instruction can
end; and the values that the mapper registers take (20_memory.md R255-R261). -/

namespace Sys2Proof.Machine

/-! ## The end of a step -/

@[simp] theorem State.finishStep_cpu (extra : Nat) (start done : State) :
    (State.finishStep extra start done).cpu = done.cpu := by simp [State.finishStep]

@[simp] theorem State.finishStep_cycles (extra : Nat) (start done : State) :
    (State.finishStep extra start done).cycles = done.cycles + extra := by simp [State.finishStep]

@[simp] theorem State.endEiDelay_cycles (arm : Bool) (s : State) : (State.endEiDelay arm s).cycles = s.cycles := by
  unfold State.endEiDelay; split <;> rfl
@[simp] theorem State.endEiDelay_run (arm : Bool) (s : State) : (State.endEiDelay arm s).cpu.run = s.cpu.run := by
  unfold State.endEiDelay; split <;> rfl
@[simp] theorem State.endEiDelay_haltBug (arm : Bool) (s : State) :
    (State.endEiDelay arm s).cpu.haltBug = s.cpu.haltBug := by
  unfold State.endEiDelay; split <;> rfl
@[simp] theorem State.endEiDelay_fault (arm : Bool) (s : State) : (State.endEiDelay arm s).cpu.fault = s.cpu.fault := by
  unfold State.endEiDelay; split <;> rfl
/-- The delay of an EI pending before the instruction ends with it (R1040). -/
@[simp] theorem State.endEiDelay_eiPending (arm : Bool) (s : State) :
    (State.endEiDelay arm s).cpu.eiPending = (!arm && s.cpu.eiPending) := by
  unfold State.endEiDelay; cases arm <;> cases h : s.cpu.eiPending <;> simp [h]

theorem State.completeStep_of_faulted (extra : Nat) (start done : State) (h : done.cpu.run = .faulted) :
    State.completeStep extra start done = State.undoStep start done := if_pos h

theorem State.completeStep_of_not_faulted (extra : Nat) (start done : State) (h : done.cpu.run ≠ .faulted) :
    State.completeStep extra start done =
      State.finishStep extra start (State.endEiDelay start.cpu.eiPending done) := if_neg h

/-! ## The cost -/

/-- An instruction that does not fault costs 4 to 24 T-cycles (70_reset_and_hazards.md R1230). -/
theorem Ended.cost {i : Instr} {s t : State} (h : Ended i s t) (hr : t.cpu.run ≠ .faulted) :
    s.cycles + 4 ≤ t.cycles ∧ t.cycles ≤ s.cycles + 24 := by
  cases h with
  | ordinary h => exact h.2.1
  | halt _ h => rcases s.enterHalt_cases with ⟨-, e⟩ | ⟨-, e⟩ <;> simp [h, e]
  | stop _ _ h => simp [h, State.enterStop]
  | di _ h => simp [h]
  | ei _ h => simp [h]
  | decodeError _ h => exact absurd (by rw [h]; rfl) hr

theorem State.afterFetch_cycles (s : State) : s.afterFetch.cycles = s.cycles := by
  obtain ⟨pc, d, h⟩ := s.afterFetch_eq
  rw [h]

/-- Settles O35, from the ways a step can go. -/
theorem stepCostIsBounded : Obligations.StepCostIsBounded := by
  intro s t hst
  change _ ∧ (_ → _ ∧ t.cycles ≤ s.cycles + 24 + s.wakeCost)
  cases step_cases hst with
  | faulted hr h => subst h; exact ⟨fun _ => rfl, fun hn => absurd hr hn⟩
  | idleHalted hr _ h =>
    have hrun : t.cpu.run = .halted := by simp [h, hr]
    have hcost : t.cycles = s.cycles + 4 := by simp [h]
    exact ⟨fun hf => by simp [hf] at hrun, by omega⟩
  | idleStopped hr _ h =>
    have hrun : t.cpu.run = .stopped := by simp [h, hr]
    have hcost : t.cycles = s.cycles + 4 := by simp [h]
    exact ⟨fun hf => by simp [hf] at hrun, by omega⟩
  | interrupt _ _ h =>
    have hrun : t.cpu.run = .running := by simp [h]
    have hcost : t.cycles = s.cycles + 20 + s.wakeCost := by simp [h]
    exact ⟨fun hf => by simp [hf] at hrun, by omega⟩
  | instruction _ _ done _ he h =>
    subst h
    by_cases hd : done.cpu.run = .faulted
    · rw [State.completeStep_of_faulted _ _ _ hd]
      exact ⟨fun _ => rfl, fun hn => absurd rfl hn⟩
    · obtain ⟨hlo, hhi⟩ := he.cost hd
      rw [State.afterFetch_cycles, State.setRun_cycles] at hlo hhi
      simp only [State.completeStep_of_not_faulted _ _ _ hd, State.finishStep_cpu, State.finishStep_cycles,
        State.endEiDelay_run, State.endEiDelay_cycles]
      exact ⟨fun hf => absurd hf hd, by omega⟩

/-! ## The control latches -/

theorem State.controlOk_iff (s : State) : s.controlOk = true ↔
    (s.cpu.fault.isSome = true ↔ s.cpu.run = .faulted) ∧
      (s.cpu.haltBug = true → s.cpu.run = .running ∨ s.cpu.run = .faulted) ∧
      (s.cpu.eiPending = true → s.cpu.run = .running ∨ s.cpu.run = .faulted) := by
  unfold State.controlOk
  have hrec : (s.cpu.fault.isSome == (s.cpu.run == .faulted)) = true ↔
      (s.cpu.fault.isSome = true ↔ s.cpu.run = .faulted) := by rw [beq_iff_eq, Bool.eq_iff_iff, beq_iff_eq]
  rw [Bool.and_eq_true, Bool.and_eq_true, hrec, and_assoc]
  cases s.cpu.haltBug <;> cases s.cpu.eiPending <;> simp

theorem State.controlOk_congr {s t : State} (h : t.cpu = s.cpu) : t.controlOk = s.controlOk := by
  unfold State.controlOk; rw [h]

/-- An instruction of a running CPU without fault record leaves one exactly when it faults; it arms the HALT-bug latch only while it
keeps running; and a pending EI that it leaves in a CPU that stops was pending before. -/
theorem Ended.latches {i : Instr} {s t : State} (h : Ended i s t) (hr : s.cpu.run = .running)
    (hf : s.cpu.fault = none) (hb : s.cpu.haltBug = false) :
    (t.cpu.fault.isSome = true ↔ t.cpu.run = .faulted) ∧ (t.cpu.haltBug = true → t.cpu.run = .running) ∧
      (t.cpu.eiPending = true → t.cpu.run = .running ∨ s.cpu.eiPending = true) := by
  cases h with
  | ordinary h =>
    obtain ⟨-, -, e1, e2, e3, e4⟩ := h
    simp [e1, e2, e3, e4, hr, hf, hb]
  | halt _ h => rcases s.enterHalt_cases with ⟨-, e⟩ | ⟨-, e⟩ <;> simp [h, e, hr, hf, hb]
  | stop _ _ h => simp [h, State.enterStop, hf, hb]
  | di _ h => simp [h, hr, hf, hb]
  | ei _ h => simp [h, hr, hf, hb]
  | decodeError _ h => simp [h, State.raiseDecodeError, hb]

theorem State.completeStep_controlOk (extra : Nat) (start done : State)
    (hf : done.cpu.fault.isSome = true ↔ done.cpu.run = .faulted)
    (hb : done.cpu.haltBug = true → done.cpu.run = .running)
    (he : done.cpu.eiPending = true → done.cpu.run = .running ∨ start.cpu.eiPending = true) :
    (State.completeStep extra start done).controlOk = true := by
  rw [State.controlOk_iff]
  by_cases hd : done.cpu.run = .faulted
  · rw [State.completeStep_of_faulted _ _ _ hd]
    simp [State.undoStep, hf.2 hd]
  · simp only [State.completeStep_of_not_faulted _ _ _ hd, State.finishStep_cpu, State.endEiDelay_run,
      State.endEiDelay_haltBug, State.endEiDelay_fault, State.endEiDelay_eiPending, Bool.and_eq_true, Bool.not_eq_true']
    refine ⟨hf, fun h => .inl (hb h), fun ⟨harm, h⟩ => .inl ((he h).resolve_right ?_)⟩
    simp [harm]

theorem step_controlOk {s t : State} (hst : step s = .next t) (h : s.controlOk = true) : t.controlOk = true := by
  have hnone : s.cpu.run ≠ .faulted → s.cpu.fault = none := by
    intro hr
    rw [State.controlOk_iff] at h
    simpa using mt h.1.1 hr
  cases step_cases hst with
  | faulted _ e => rwa [e]
  | idleHalted _ _ e => rwa [State.controlOk_congr (show t.cpu = s.cpu by simp [e])]
  | idleStopped _ _ e => rwa [e]
  | interrupt hr _ e =>
    rw [e, State.controlOk_iff]
    simp [hnone hr]
  | instruction hr _ done _ he e =>
    obtain ⟨pc, d, hfetch⟩ := (s.setRun .running).afterFetch_eq
    rw [hfetch] at he
    obtain ⟨hf, hb, hei⟩ := he.latches rfl (hnone hr) rfl
    rw [e]
    exact State.completeStep_controlOk _ _ _ hf hb hei

/-! ## The mapper registers -/

theorem State.mapperOk_congr {s t : State} (hm : t.mapper = s.mapper) (hl : t.launch = s.launch) :
    t.mapperOk = s.mapperOk := by
  unfold State.mapperOk; rw [hm, hl]

theorem State.mapperOk_iff (s : State) : s.mapperOk = true ↔ s.mapper.lower ≠ 0 ∧
    (s.launch.cart.mapper ≠ .mbc5 → s.mapper.romBank ≠ 0 ∧ s.mapper.romBank.toNat < 0x80) ∧
    (s.launch.cart.mapper = .mbc5 → s.mapper.ramSel.toNat ≤ if s.launch.cart.rumble = true then 7 else 15) := by
  unfold State.mapperOk
  by_cases h : s.launch.cart.mapper = .mbc5 <;> simp [h]

/-- MBC1's commands leave the lower bank not 0, and the other mappers' registers alone (R254-R257). -/
theorem mbc1Write_kept (m : MapperRegs) (a : Word) (v : Byte) (h : m.lower ≠ 0) :
    (mbc1Write m a v).lower ≠ 0 ∧ (mbc1Write m a v).romBank = m.romBank := by
  unfold mbc1Write
  split_ifs with _ _ hz
  · exact ⟨h, rfl⟩
  · exact ⟨(by decide : (1#5 : BitVec 5) ≠ 0), rfl⟩
  · exact ⟨hz, rfl⟩
  · exact ⟨h, rfl⟩
  · exact ⟨h, rfl⟩

/-- MBC3's ROM bank is 1 to 127 after any command (R259). -/
theorem mbc3Write_kept (m : MapperRegs) (a : Word) (v : Byte) (h : m.romBank ≠ 0 ∧ m.romBank.toNat < 0x80) :
    (mbc3Write m a v).lower = m.lower ∧ (mbc3Write m a v).romBank ≠ 0 ∧ (mbc3Write m a v).romBank.toNat < 0x80 := by
  unfold mbc3Write
  split_ifs with _ _ hz
  · exact ⟨rfl, h⟩
  · exact ⟨rfl, (by decide : (1#9 : BitVec 9) ≠ 0 ∧ (1#9 : BitVec 9).toNat < 0x80)⟩
  · refine ⟨rfl, ?_⟩
    bv_omega
  · exact ⟨rfl, h⟩
  · exact ⟨rfl, h⟩

/-- MBC5's RAM bank has 4 bits, 3 with the rumble motor (R261). -/
theorem mbc5Write_kept (rumble : Bool) (m : MapperRegs) (a : Word) (v : Byte)
    (h : m.ramSel.toNat ≤ if rumble = true then 7 else 15) :
    (mbc5Write rumble m a v).lower = m.lower ∧
      (mbc5Write rumble m a v).ramSel.toNat ≤ if rumble = true then 7 else 15 := by
  unfold mbc5Write
  split_ifs at h ⊢ <;> try exact ⟨rfl, h⟩
  · exact ⟨rfl, by rw [BitVec.toNat_and]; exact Nat.and_le_right⟩
  · exact ⟨rfl, by rw [BitVec.toNat_and]; exact Nat.and_le_right⟩

theorem State.mapperWrite_mapperOk (s : State) (a : Word) (v : Byte) (h : s.mapperOk = true) :
    (s.mapperWrite a v).mapperOk = true := by
  rw [State.mapperOk_iff] at h ⊢
  obtain ⟨hlower, hrom, hram⟩ := h
  rw [State.mapperWrite_launch]
  unfold State.mapperWrite
  cases hm : s.launch.cart.mapper with
  | romOnly => exact ⟨hlower, fun _ => hrom (by simp [hm]), fun hn => by cases hn⟩
  | mbc1 =>
    obtain ⟨hl, hr⟩ := mbc1Write_kept s.mapper a v hlower
    exact ⟨hl, fun _ => hr.symm ▸ hrom (by simp [hm]), fun hn => by cases hn⟩
  | mbc3 =>
    obtain ⟨hl, hr⟩ := mbc3Write_kept s.mapper a v (hrom (by simp [hm]))
    exact ⟨hl.symm ▸ hlower, fun _ => hr, fun hn => by cases hn⟩
  | mbc5 =>
    obtain ⟨hl, hr⟩ := mbc5Write_kept s.launch.cart.rumble s.mapper a v (hram hm)
    exact ⟨hl.symm ▸ hlower, fun hn => absurd rfl hn, fun _ => hr⟩

theorem State.busWrite_mapperOk (s : State) (a : Word) (v : Byte) (h : s.mapperOk = true) :
    (s.busWrite a v).mapperOk = true := by
  rcases s.busWrite_cases a v with e | ⟨-, e⟩ | ⟨p, -, e⟩ | ⟨-, e⟩ | ⟨-, e⟩ <;> rw [e]
  · exact h
  · exact s.mapperWrite_mapperOk a v h
  · exact h
  · rwa [State.mapperOk_congr (s.ioWrite_mapper _ v) (s.ioWrite_launch _ v)]
  · exact h

theorem Piece.mapperOk {s t : State} (p : Piece s t) (h : s.mapperOk = true) : t.mapperOk = true := by
  cases p with
  | write a v => exact s.busWrite_mapperOk a v h
  | device => rwa [State.mapperOk_congr s.deviceTick_mapper s.deviceTick_launch]
  | _ => exact h

/-- Settles O39: the latches from the ways a step can go, the mapper registers from the pieces it is made of. -/
theorem stepKeepsControlAndMapperForm : Obligations.StepKeepsControlAndMapperForm := fun _ _ hst =>
  ⟨step_controlOk hst, @step_keep (fun u => u.mapperOk = true) (fun _ _ p => p.mapperOk) _ _ hst⟩

end Sys2Proof.Machine
end


section
/-! What Load leaves (10_state.md R170-R173): the registers, the ports, the mapper registers, and the invariant. -/

namespace Sys2Proof.Machine

/-! ## What a program reads after Load -/

/-- `div_counter` after Load as a number: the high byte R171 gives, and the launch argument (R171). -/
theorem divCounter_of_bytes (x : Byte) : 0xAB#8 ++ x = 0xAB00#16 + zext16 x := by
  have hx := x.isLt
  apply BitVec.eq_of_toNat_eq
  rw [BitVec.toNat_append, ← Nat.shiftLeft_add_eq_or_of_lt hx]
  simp [zext16]
  omega

theorem State.afterLoad_lcdOn (launch : Launch) (args : InitArgs) : (State.afterLoad launch args).lcdOn = true :=
  (by decide : (0x91#8).getLsbD 7 = true)

/-- STAT reads 0x86: bit 7 is 1, LY = LYC, mode 2 (R171). -/
theorem State.afterLoad_peek_stat (launch : Launch) (args : InitArgs) :
    (State.afterLoad launch args).peek 0xFF41 = 0x86 := by
  rw [State.peek_io _ _ .stat rfl rfl]
  simp only [State.ioRead, State.modeReported, State.afterLoad_lcdOn, if_true]
  exact (by decide : 1#1 ++ 0#4 ++ BitVec.ofBool true ++ PpuMode.oamScan.code = 0x86#8)

theorem State.afterLoad_peek_ly (launch : Launch) (args : InitArgs) :
    (State.afterLoad launch args).peek 0xFF44 = 0x00 := by
  rw [State.peek_io _ _ .ly rfl rfl]
  simp only [State.ioRead, State.afterLoad_lcdOn, if_true]
  rfl

/-- Settles O41: F and the ports made of parts are put together from them, and every other value is stored as stated. -/
theorem loadLeavesTheStatedValues : Obligations.LoadLeavesTheStatedValues := by
  intro launch args
  have hf : Cpu.afterLoad.f.toByte = 0xB0 := by decide
  have hp1 : 0b11#2 ++ 0b00#2 ++ joypadLines { select := 0b00, buttons := 0x00 } = 0xCF#8 := by decide
  have hsc : BitVec.ofBool false ++ 0b111111#6 ++ BitVec.ofBool false = 0x7E#8 := by decide
  have htac : 0b11111#5 ++ 0#3 = 0xF8#8 := by decide
  have hif : 0b111#3 ++ 0b00001#5 = 0xE1#8 := by decide
  have hdiv := divCounter_of_bytes args.divLo
  have hstat := State.afterLoad_peek_stat launch args
  have hly := State.afterLoad_peek_ly launch args
  refine ⟨⟨rfl, hf, ?_⟩, ⟨hp1, rfl, hsc, hi_cat _ _, hdiv, rfl, rfl, htac, hif, rfl, hstat, rfl, rfl, hly, ?_⟩, ?_⟩ <;>
    and_intros <;> rfl

/-! ## The invariant after Load -/

theorem Frame.blank_shaped : Frame.blank.shaped = true := by simp [Frame.shaped, Frame.blank]

theorem State.afterLoad_memOk (launch : Launch) (args : InitArgs) (hwf : Memory.wf args.mem = true)
    (hin : Memory.within (placeOk launch.cart.ramSize) args.mem = true) : (State.afterLoad launch args).memOk = true :=
  Bool.and_eq_true_iff.2 ⟨hwf, hin⟩

theorem State.afterLoad_ppuOk (launch : Launch) (args : InitArgs) : (State.afterLoad launch args).ppuOk = true := by
  rw [State.ppuOk_parts]
  refine ⟨?_, ?_, rfl, ?_⟩
  · exact State.ppuPositionOk_of_lineStart _ (State.afterLoad_lcdOn launch args) rfl (show (0#8).toNat < 154 by decide) rfl
  · simp [State.coincidenceOk, State.afterLoad, Ppu.afterLoad]
  · simp [State.framesOk, State.afterLoad, Ppu.afterLoad, Frame.blank_shaped]

theorem State.afterLoad_controlOk (launch : Launch) (args : InitArgs) : (State.afterLoad launch args).controlOk = true :=
  rfl

theorem State.afterLoad_mapperOk (launch : Launch) (args : InitArgs) : (State.afterLoad launch args).mapperOk = true := by
  rw [State.mapperOk_iff]
  exact ⟨(by decide : (1#5 : BitVec 5) ≠ 0), fun _ => (by decide : (1#9 : BitVec 9) ≠ 0 ∧ (1#9 : BitVec 9).toNat < 0x80),
    fun _ => Nat.zero_le _⟩

theorem State.afterLoad_inv (launch : Launch) (args : InitArgs) (hwf : Memory.wf args.mem = true)
    (hin : Memory.within (placeOk launch.cart.ramSize) args.mem = true) : (State.afterLoad launch args).Inv = true := by
  simp [State.Inv, State.afterLoad_memOk launch args hwf hin, State.afterLoad_ppuOk, State.afterLoad_controlOk,
    State.afterLoad_mapperOk]

/-- Settles O40: Load's registers meet the PPU, control and mapper forms whatever the launch, and the reset memory is empty. -/
theorem loadAndResetMeetTheInvariant : Obligations.LoadAndResetMeetTheInvariant :=
  ⟨State.afterLoad_inv, State.afterLoad_inv Launch.blank InitArgs.base rfl rfl⟩

end Sys2Proof.Machine
end


section
/-! The LCD switch (60_exceptions.md R1118) and the joypad (R1080, R1081). -/

namespace Sys2Proof.Machine

/-! ## The LCD switch -/

theorem State.lycCompare_intr_of_no_source (s : State) (h : ¬ (s.ppu.ly = s.ppu.lyc ∧ s.ppu.statEnables.getLsbD 3 = true)) :
    s.lycCompare.intr = s.intr := by
  unfold State.lycCompare
  split
  · dsimp only
    rw [if_neg fun hc => h ⟨of_decide_eq_true hc.1, hc.2.2.1⟩]
  · rfl

theorem State.switchOnEdge_of_no_source (s : State) (h : s.lycSource = false) : s.switchOnEdge = s :=
  if_neg (by simp [h])

/-- After the switch-on's compare the LY = LYC source stands exactly for STAT[6] and LY = LYC. -/
theorem State.lycSource_lycCompare (s : State) (ho : s.lcdOn = true) :
    s.lycCompare.lycSource = (s.ppu.statEnables.getLsbD 3 && decide (s.ppu.ly = s.ppu.lyc)) := by
  unfold State.lycSource
  rw [s.lycCompare_ppu ho]

/-- The end of the switch-on at LY 0: the coincidence bit says whether LYC is 0, and without STAT[6] and LYC = 0 nothing is requested,
under either model (R1118, log 14). -/
theorem State.switchOn_at_line_zero (s : State) (ho : s.lcdOn = true) (hly : s.ppu.ly = 0) :
    s.lycCompare.switchOnEdge.ppu = { s.ppu with statCoincidence := decide (s.ppu.lyc.toNat = 0) } ∧
      (s.ppu.statEnables.getLsbD 3 = false ∨ s.ppu.lyc.toNat ≠ 0 → s.lycCompare.switchOnEdge.intr = s.intr) := by
  have hz : s.ppu.ly = s.ppu.lyc ↔ s.ppu.lyc.toNat = 0 := by rw [hly, eq_comm]; exact byte_eq_zero_iff _
  refine ⟨by simp only [State.switchOnEdge_ppu, s.lycCompare_ppu ho, hz], fun h => ?_⟩
  have hno : ¬ (s.ppu.ly = s.ppu.lyc ∧ s.ppu.statEnables.getLsbD 3 = true) := by
    rintro ⟨hy, he⟩
    exact h.elim (fun hn => Bool.noConfusion (hn.symm.trans he)) fun hn => hn (hz.1 hy)
  have hs : s.lycCompare.lycSource = false := by
    rw [s.lycSource_lycCompare ho, ← Bool.not_eq_true, Bool.and_eq_true, decide_eq_true_eq]
    exact fun hc => hno hc.symm
  rw [State.switchOnEdge_of_no_source _ hs, s.lycCompare_intr_of_no_source hno]

theorem State.modeReported_of_off (s : State) (h : s.lcdOn = false) : s.modeReported = 0 := by
  simp [State.modeReported, h]

/-- STAT's two low bits are the mode it reports (R139). -/
theorem State.peek_stat_mode (s : State) : s.peek 0xFF41 &&& 0x03 = 0#6 ++ s.modeReported := by
  rw [s.peek_io _ .stat rfl rfl]
  simp only [State.ioRead]
  generalize s.modeReported = m
  generalize s.ppu.statEnables = e
  cases s.ppu.statCoincidence <;> (revert m e; decide)

/-- What the LCD being off means for the PPU and the bus (R1118, R206, R210, R212). -/
theorem State.lcd_off (s : State) (h : s.lcdOn = false) :
    s.ppuTick = s ∧ s.peek 0xFF41 &&& 0x03 = 0 ∧ s.peek 0xFF44 = 0 ∧
      s.vramReadBlocked = false ∧ s.vramWriteBlocked = false ∧ s.oamBlocked = false := by
  refine ⟨?_, ?_, ?_, ?_, ?_, ?_⟩
  · simp [State.ppuTick, h]
  · rw [s.peek_stat_mode, s.modeReported_of_off h]; rfl
  · rw [s.peek_io _ .ly rfl rfl]; simp [State.ioRead, h]
  · simp [State.vramReadBlocked, h]
  · simp [State.vramWriteBlocked, h]
  · simp [State.oamBlocked, h]

/-- Settles O49, by what LCDC[7] was and becomes. -/
theorem lcdSwitch : Obligations.LcdSwitch := by
  intro s v
  have hw : s.busWrite 0xFF40 v = s.lcdcWrite v := s.busWrite_io _ v .lcdc rfl rfl
  simp only [hw]
  refine ⟨fun hs hv => ?_, fun hs hv => ?_, fun hsame => ?_, s.lcd_off⟩
  · rw [s.lcdcWrite_off v hs hv]
    exact ⟨rfl, rfl⟩
  · rw [s.lcdcWrite_on v hs hv]
    exact State.switchOn_at_line_zero (State.restartLine { s with ppu := { s.ppu with lcdc := v } } .oamScan) hv rfl
  · rw [s.lcdcWrite_same v hsame]
    exact ⟨rfl, rfl⟩

/-! ## The joypad -/

/-- Line `k` is low: a selected group's button `k` is pressed (R1080). -/
def Joypad.low (j : Joypad) (k : Nat) : Bool :=
  (!j.select.getLsbD 0 && j.buttons.getLsbD k) || (!j.select.getLsbD 1 && j.buttons.getLsbD (k + 4))

theorem joypadLines_getLsbD (j : Joypad) (k : Nat) (hk : k < 4) : (joypadLines j).getLsbD k = !j.low k := by
  unfold joypadLines Joypad.low
  rw [BitVec.getLsbD_not, BitVec.getLsbD_or]
  cases j.select.getLsbD 0 <;> cases j.select.getLsbD 1 <;> simp [hk, Nat.add_comm 4 k]

theorem and_not_eq_zero_iff {w : Nat} (x y : BitVec w) :
    x &&& ~~~y = 0 ↔ ∀ k, k < w → x.getLsbD k = true → y.getLsbD k = true := by
  constructor
  · intro h k hk hx
    have hb := congrArg (·.getLsbD k) h
    simpa [hk, hx] using hb
  · intro h
    refine BitVec.eq_of_getLsbD_eq fun k hk => ?_
    have hb := h k hk
    cases hx : x.getLsbD k <;> simp_all

/-- The check requests the Joypad interrupt exactly when a line that was high is low, and no other (R1081). -/
theorem State.joypadCheck_iflag (s : State) (old : BitVec 4) :
    (∀ i, i < 4 → (s.joypadCheck old).intr.iflag.getLsbD i = s.intr.iflag.getLsbD i) ∧
      ((s.joypadCheck old).intr.iflag.getLsbD 4 = true ↔ s.intr.iflag.getLsbD 4 = true ∨
        ∃ k, k < 4 ∧ old.getLsbD k = true ∧ (joypadLines s.joypad).getLsbD k = false) := by
  have hfall : (∃ k, k < 4 ∧ old.getLsbD k = true ∧ (joypadLines s.joypad).getLsbD k = false) ↔
      ¬ old &&& ~~~(joypadLines s.joypad) = 0 := by
    rw [and_not_eq_zero_iff]; simp
  rw [hfall]
  unfold State.joypadCheck
  split
  · exact ⟨fun _ _ => rfl, fun h => .inl h, fun h => h.resolve_right (not_not_intro ‹_›)⟩
  · have hbits : ∀ x : BitVec 5, (∀ i, i < 4 → (x ||| 1#5 <<< 4).getLsbD i = x.getLsbD i) ∧
        (x ||| 1#5 <<< 4).getLsbD 4 = true := by decide
    exact ⟨(hbits _).1, fun _ => .inr ‹_›, fun _ => (hbits _).2⟩

/-- A change of the joypad's registers with the check after it requests the Joypad interrupt exactly when a line falls. -/
theorem State.joypadCheck_changed (s : State) (j : Joypad) :
    (let t := State.joypadCheck { s with joypad := j } (joypadLines s.joypad)
     t.intr.ie = s.intr.ie ∧ (∀ i, i < 4 → t.intr.iflag.getLsbD i = s.intr.iflag.getLsbD i) ∧
      (t.intr.iflag.getLsbD 4 = true ↔
        s.intr.iflag.getLsbD 4 = true ∨ ∃ k, k < 4 ∧ s.joypad.low k = false ∧ t.joypad.low k = true)) := by
  obtain ⟨hlow, hjoy⟩ := State.joypadCheck_iflag { s with joypad := j } (joypadLines s.joypad)
  refine ⟨State.joypadCheck_ie _ _, hlow, hjoy.trans (or_congr_right (exists_congr fun k => and_congr_right fun hk => ?_))⟩
  simp [joypadLines_getLsbD _ k hk]

/-- Settles O50: both writes are a change of the joypad's registers and the check. -/
theorem joypadLinesAndRequest : Obligations.JoypadLinesAndRequest := by
  intro s v
  have hw : s.busWrite 0xFF00 v = s.p1Write v := s.busWrite_io _ v .p1 rfl rfl
  simp only [hw]
  refine ⟨joypadLines_getLsbD s.joypad, State.joypadCheck_joypad _ _, State.joypadCheck_joypad _ _, fun t ht => ?_⟩
  rcases ht with rfl | rfl
  · exact s.joypadCheck_changed { s.joypad with select := v.extractLsb' 4 2 }
  · exact s.joypadCheck_changed { s.joypad with buttons := v }

end Sys2Proof.Machine
end


section
/-! OAM DMA (60_exceptions.md R1090), byte by byte: the first `n` bytes are in OAM, and what is still to be read is as it was. -/

namespace Sys2Proof.Machine

/-! ## A source byte -/

/-- Below OAM an address names no OAM byte. -/
theorem State.place_not_oam (s : State) (a : Word) (ha : a.toNat < 0xFE00) (p : Nat) (h : s.place a = some p) :
    ¬ (0xFE00 ≤ p ∧ p ≤ 0xFE9F) := by
  have r := region_range a
  unfold State.place at h
  cases hr : region a with
  | rom0 | romX | unused | io | ie => simp [hr] at h
  | vram | wram | echo | oam | hram =>
    simp only [hr, Region.range, Option.some.injEq] at h r
    omega
  | extRam =>
    simp only [hr] at h
    split at h
    · simp only [Option.some.injEq, extRamPlace] at h
      omega
    · cases h

/-- A byte below OAM, blocking aside, stays while only OAM, the draws and DMA change. -/
theorem State.busRead_congr_below_oam (s t : State) (a : Word) (ha : a.toNat < 0xFE00) (hm : t.mapper = s.mapper)
    (hl : t.launch = s.launch)
    (hmem : ∀ p, ¬ (0xFE00 ≤ p ∧ p ≤ 0xFE9F) → Memory.read t.mem p = Memory.read s.mem p) :
    t.busRead false a = s.busRead false a := by
  have hst : t.stored a = s.stored a := by
    unfold State.stored
    rw [State.place_congr s t a hm hl]
    cases hp : s.place a with
    | none => rfl
    | some p => exact hmem p (s.place_not_oam a ha p hp)
  have r := region_range a
  unfold State.busRead
  cases hr : region a <;> simp only [hr, Region.range] at r ⊢
  case rom0 => simp only [State.romRead, State.bank0, hm, hl]
  case romX => simp only [State.romRead, State.bankX, hm, hl]
  case vram | extRam | wram | echo | oam | hram => exact hst
  case io | ie => omega

/-! ## The copy -/

theorem State.oamDmaByte_high (v : Byte) (s : State) (k : Nat) (hv : 0xFE ≤ v.toNat) : State.oamDmaByte v s k =
    State.store { s with draws := s.draws + 1 } (0xFE00 + k) (Config.dmaHighSrc s.draws) :=
  if_pos (by omega)

theorem State.oamDmaByte_low (v : Byte) (s : State) (k : Nat) (hk : k < 160) (hv : v.toNat < 0xFE) :
    State.oamDmaByte v s k = s.store (0xFE00 + k) (s.busRead false (BitVec.ofNat 16 (v.toNat * 256 + k))) :=
  if_neg (by omega)

/-- The state when the first `n` bytes are copied. -/
def State.oamDmaUpTo (v : Byte) (s : State) (n : Nat) : State := (List.range n).foldl (State.oamDmaByte v) s

theorem State.oamDmaUpTo_succ (v : Byte) (s : State) (n : Nat) :
    State.oamDmaUpTo v s (n + 1) = State.oamDmaByte v (State.oamDmaUpTo v s n) n := by
  simp [State.oamDmaUpTo, List.range_succ]

theorem State.oamDma_eq_upTo (s : State) (v : Byte) : s.oamDma v = State.oamDmaUpTo v s 160 := rfl

@[simp] theorem State.oamDmaUpTo_mapper (v : Byte) (s : State) (n : Nat) :
    (State.oamDmaUpTo v s n).mapper = s.mapper :=
  foldl_keeps _ State.mapper (State.oamDmaByte_mapper v) _ _

@[simp] theorem State.oamDmaUpTo_launch (v : Byte) (s : State) (n : Nat) :
    (State.oamDmaUpTo v s n).launch = s.launch :=
  foldl_keeps _ State.launch (State.oamDmaByte_launch v) _ _

/-- From page 0xFE upward each byte copied is a draw (log 8). -/
theorem State.oamDmaUpTo_draws (v : Byte) (s : State) (n : Nat) (hv : 0xFE ≤ v.toNat) :
    (State.oamDmaUpTo v s n).draws = s.draws + n := by
  induction n with
  | zero => rfl
  | succ n ih => rw [State.oamDmaUpTo_succ, State.oamDmaByte_high v _ _ hv, State.store_draws, ih, Nat.add_assoc]

theorem State.oamDmaByte_read (v : Byte) (s : State) (k p : Nat) (hp : p ≠ 0xFE00 + k) :
    Memory.read (State.oamDmaByte v s k).mem p = Memory.read s.mem p := by
  unfold State.oamDmaByte
  split <;> exact Memory.read_write_other _ _ _ _ hp

/-- The bytes not copied yet are as they were. -/
theorem State.oamDmaUpTo_read_other (v : Byte) (s : State) (n p : Nat) (hp : ¬ (0xFE00 ≤ p ∧ p < 0xFE00 + n)) :
    Memory.read (State.oamDmaUpTo v s n).mem p = Memory.read s.mem p := by
  induction n with
  | zero => rfl
  | succ n ih => rw [State.oamDmaUpTo_succ, State.oamDmaByte_read _ _ _ _ (by omega), ih (by omega)]

/-- Byte `k` of the source page: the bus's, blocking aside, or from page 0xFE upward the next draw (R1090). -/
def State.oamDmaSource (s : State) (v : Byte) (k : Nat) : Byte :=
  if v.toNat < 0xFE then s.busRead false (BitVec.ofNat 16 (v.toNat * 256 + k)) else Config.dmaHighSrc (s.draws + k)

/-- The byte that is copied next is the source's at the start: the copy so far wrote only OAM, which is no source below page 0xFE. -/
theorem State.oamDmaByte_upTo_read (v : Byte) (s : State) (n : Nat) (hn : n < 160) :
    Memory.read (State.oamDmaByte v (State.oamDmaUpTo v s n) n).mem (0xFE00 + n) = s.oamDmaSource v n := by
  unfold State.oamDmaSource
  split
  · have ha : (BitVec.ofNat 16 (v.toNat * 256 + n)).toNat < 0xFE00 := by
      rw [BitVec.toNat_ofNat]; omega
    rw [State.oamDmaByte_low v _ n hn ‹_›, State.store_mem, Memory.read_write_same]
    exact State.busRead_congr_below_oam s _ _ ha (State.oamDmaUpTo_mapper v s n) (State.oamDmaUpTo_launch v s n)
      fun p hp => State.oamDmaUpTo_read_other v s n p (by omega)
  · have hv : 0xFE ≤ v.toNat := by omega
    rw [State.oamDmaByte_high v _ n hv, State.store_mem, Memory.read_write_same, State.oamDmaUpTo_draws v s n hv]

theorem State.oamDmaUpTo_read (v : Byte) (s : State) (n k : Nat) (hn : n ≤ 160) (hk : k < n) :
    Memory.read (State.oamDmaUpTo v s n).mem (0xFE00 + k) = s.oamDmaSource v k := by
  induction n with
  | zero => omega
  | succ n ih =>
    rw [State.oamDmaUpTo_succ]
    rcases Nat.lt_succ_iff_lt_or_eq.1 hk with hlt | rfl
    · rw [State.oamDmaByte_read _ _ _ _ (by omega), ih (by omega) hlt]
    · exact State.oamDmaByte_upTo_read v s k hn

/-- The DMA register itself is no source below page 0xFE. -/
theorem State.oamDmaSource_dma (s : State) (v w : Byte) (k : Nat) (hk : k < 160) :
    State.oamDmaSource { s with dma := w } v k = s.oamDmaSource v k := by
  unfold State.oamDmaSource
  split
  · refine State.busRead_congr_below_oam s _ _ ?_ rfl rfl fun _ _ => rfl
    rw [BitVec.toNat_ofNat]; omega
  · rfl

/-- Settles O51: DMA takes v, and then the 160 bytes are copied one by one. -/
theorem oamDmaCopies : Obligations.OamDmaCopies := by
  intro s v
  have hw : s.busWrite 0xFF46 v = State.oamDma { s with dma := v } v := s.busWrite_io _ v .dma rfl rfl
  simp only [hw]
  refine ⟨State.oamDma_dma _ v, fun k hk => ?_, fun p hp => State.oamDma_read_other _ v p hp, State.oamDma_cpu _ v,
    State.oamDma_ppu _ v, State.oamDma_intr _ v, State.oamDma_timer _ v, State.oamDma_mapper _ v, State.oamDma_cycles _ v⟩
  rw [State.oamDma_eq_upTo, State.oamDmaUpTo_read v _ 160 k (Nat.le_refl _) hk, State.oamDmaSource_dma s v v k hk]
  rfl

end Sys2Proof.Machine
end


section
/-! The I/O registers (10_state.md R130-R152, 20_memory.md R212, R213): what a read fixes, what a write stores, and the audio and
unmapped addresses. -/

namespace Sys2Proof.Machine

/-! ## Addresses -/

theorem region_io (a : Word) (h : 0xFF00 ≤ a.toNat ∧ a.toNat ≤ 0xFF7F) : region a = .io := by
  unfold region
  iterate 8 rw [if_neg (by omega)]
  rw [if_pos h.2]

theorem word_ne_ofNat (a : Word) (n : Nat) (hn : n < 0x10000) (h : a.toNat ≠ n) : a ≠ BitVec.ofNat 16 n := by
  rintro rfl
  exact h (Nat.mod_eq_of_lt hn)

theorem ioReg_audio (a : Word) (h : 0xFF10 ≤ a.toNat ∧ a.toNat ≤ 0xFF3F) : ioReg a = .audio := by
  unfold ioReg
  iterate 8 rw [if_neg (word_ne_ofNat a _ (by omega) (by omega))]
  rw [if_pos h]

theorem ioReg_unmapped (a : Word)
    (h : a.toNat = 0xFF03 ∨ (0xFF08 ≤ a.toNat ∧ a.toNat ≤ 0xFF0E) ∨ (0xFF4C ≤ a.toNat ∧ a.toNat ≤ 0xFF7F)) :
    ioReg a = .unmapped := by
  unfold ioReg
  iterate 8 rw [if_neg (word_ne_ofNat a _ (by omega) (by omega))]
  rw [if_neg (by omega)]
  iterate 12 rw [if_neg (word_ne_ofNat a _ (by omega) (by omega))]

/-! ## The bytes that reads put together -/

theorem p1_high (x : BitVec 2) (y : BitVec 4) : (0b11#2 ++ x ++ y) &&& 0xC0#8 = 0xC0 := by revert x y; decide

theorem sc_high (x y : Bool) : (BitVec.ofBool x ++ 0b111111#6 ++ BitVec.ofBool y) &&& 0x7E#8 = 0x7E := by
  revert x y; decide

theorem tac_high (x : BitVec 3) : (0b11111#5 ++ x) &&& 0xF8#8 = 0xF8 := by revert x; decide

theorem iflag_high (x : BitVec 5) : (0b111#3 ++ x) &&& 0xE0#8 = 0xE0 := by revert x; decide

theorem sc_of_byte (v : Byte) :
    BitVec.ofBool (v.getLsbD 7) ++ 0b111111#6 ++ BitVec.ofBool (v.getLsbD 0) = (v ||| 0x7E : Byte) := by revert v; decide

theorem tac_of_byte (v : Byte) : 0b11111#5 ++ v.extractLsb' 0 3 = (v ||| 0xF8 : Byte) := by revert v; decide

theorem iflag_of_byte (v : Byte) : 0b111#3 ++ v.extractLsb' 0 5 = (v ||| 0xE0 : Byte) := by revert v; decide

/-- The byte of STAT: bit 7, the enables, the coincidence bit, the mode (R139). -/
def statByte (e : BitVec 4) (c : Bool) (m : BitVec 2) : Byte := 1#1 ++ e ++ BitVec.ofBool c ++ m

theorem statByte_high (e : BitVec 4) (c : Bool) (m : BitVec 2) : statByte e c m &&& 0x80 = 0x80 := by
  revert e c m; decide

/-- Bits 7 and 2-0 of STAT do not depend on the enables. -/
theorem statByte_and_fixed (e : BitVec 4) (c : Bool) (m : BitVec 2) : statByte e c m &&& 0x87 = statByte 0 c m := by
  revert e c m; decide

theorem statByte_eq_or (e : BitVec 4) (c : Bool) (m : BitVec 2) :
    statByte e c m = (0#1 ++ e ++ 0#3) ||| statByte 0 c m := by
  revert e c m; decide

theorem byte_and_enables (v : Byte) : v &&& 0x78 = 0#1 ++ v.extractLsb' 3 4 ++ 0#3 := by revert v; decide

/-! ## What the device writes store -/

theorem State.divWrite_divCounter (s : State) : s.divWrite.timer.divCounter = 0 := by
  unfold State.divWrite State.incTima; dsimp only; (repeat' split) <;> rfl

theorem State.tacWrite_tac (s : State) (v : BitVec 3) : (s.tacWrite v).timer.tac = v := by
  unfold State.tacWrite State.incTima; dsimp only; (repeat' split) <;> rfl

theorem State.statWrite_ppu (s : State) (v : Byte) :
    (s.statWrite v).ppu = { s.ppu with statEnables := v.extractLsb' 3 4 } := State.statEdge_ppu _ _

/-- The compare writes the coincidence bit only (R1106). -/
theorem State.lycCompare_ppu_eq (s : State) : ∃ c, s.lycCompare.ppu = { s.ppu with statCoincidence := c } := by
  cases h : s.lcdOn with
  | true => exact ⟨_, s.lycCompare_ppu h⟩
  | false => exact ⟨s.ppu.statCoincidence, by rw [s.lycCompare_off h]⟩

theorem State.lycWrite_lyc (s : State) (v : Byte) : (s.lycWrite v).ppu.lyc = v := by
  obtain ⟨c, h⟩ := State.lycCompare_ppu_eq { s with ppu := { s.ppu with lyc := v } }
  rw [State.lycWrite, State.statEdge_ppu, h]

theorem State.lcdcWrite_lcdc (s : State) (v : Byte) : (s.lcdcWrite v).ppu.lcdc = v := by
  by_cases h : s.lcdOn = v.getLsbD 7
  · rw [s.lcdcWrite_same v h]
  · cases hs : s.lcdOn with
    | true => rw [s.lcdcWrite_off v hs (by simpa [hs] using h)]; rfl
    | false =>
      rw [s.lcdcWrite_on v hs (by simpa [hs] using h), State.switchOnEdge_ppu]
      obtain ⟨c, hc⟩ :=
        State.lycCompare_ppu_eq (State.restartLine { s with ppu := { s.ppu with lcdc := v } } .oamScan)
      rw [hc]; rfl

/-! ## Reading back -/

theorem State.peek_busWrite_io (s : State) (a : Word) (v : Byte) (r : IoReg) (ha : region a = .io) (hr : ioReg a = r) :
    (s.busWrite a v).peek a = (s.ioWrite r v).ioRead r := by
  rw [s.busWrite_io a v r ha hr, State.peek_io _ a r ha hr]

/-- The registers that read back what was written. -/
def IoReg.plain : IoReg → Bool
  | .sb | .tima | .tma | .lcdc | .scy | .scx | .lyc | .dma | .bgp | .obp0 | .obp1 | .wy | .wx => true
  | .p1 | .sc | .div | .tac | .iflag | .audio | .stat | .ly | .unmapped => false

theorem State.ioRead_ioWrite_plain (s : State) (r : IoReg) (v : Byte) (h : r.plain = true) :
    (s.ioWrite r v).ioRead r = v := by
  cases r with
  | lcdc => exact s.lcdcWrite_lcdc v
  | lyc => exact s.lycWrite_lyc v
  | dma => exact State.oamDma_dma { s with dma := v } v
  | sb | tima | tma | scy | scx | bgp | obp0 | obp1 | wy | wx => rfl
  | p1 | sc | div | tac | iflag | audio | stat | ly | unmapped => cases h

theorem plain_addresses : ∀ a ∈ [0xFF01#16, 0xFF05#16, 0xFF06#16, 0xFF40#16, 0xFF42#16, 0xFF43#16, 0xFF45#16, 0xFF46#16,
    0xFF47#16, 0xFF48#16, 0xFF49#16, 0xFF4A#16, 0xFF4B#16, 0xFFFF#16],
    a = 0xFFFF#16 ∨ region a = .io ∧ (ioReg a).plain = true := by
  iterate 13 refine List.forall_mem_cons.2 ⟨.inr ⟨rfl, rfl⟩, ?_⟩
  exact List.forall_mem_singleton.2 (.inl rfl)

theorem State.ioRead_stat (s : State) :
    s.ioRead .stat = statByte s.ppu.statEnables s.ppu.statCoincidence s.modeReported := rfl

/-- A write to STAT changes bits 6-3 of what STAT reads, and no other (R139). -/
theorem State.ioRead_statWrite (s : State) (v : Byte) :
    (s.statWrite v).ioRead .stat = (v &&& 0x78) ||| (s.ioRead .stat &&& 0x87) := by
  have hm : (s.statWrite v).modeReported = s.modeReported := by
    unfold State.modeReported State.lcdOn
    rw [s.statWrite_ppu]
  rw [State.ioRead_stat, State.ioRead_stat, statByte_and_fixed, byte_and_enables, hm, s.statWrite_ppu]
  exact statByte_eq_or _ _ _

/-- Settles O58: each access is the read or the write of the register at its address. -/
theorem ioRegistersReadAndStore : Obligations.IoRegistersReadAndStore := by
  intro s v
  have read (a : Word) (r : IoReg) (ha : region a = .io) (hr : ioReg a = r) := s.peek_io a r ha hr
  have back (a : Word) (r : IoReg) (ha : region a = .io) (hr : ioReg a = r) := s.peek_busWrite_io a v r ha hr
  rw [read 0xFF00 .p1 rfl rfl, read 0xFF02 .sc rfl rfl, read 0xFF07 .tac rfl rfl, read 0xFF0F .iflag rfl rfl,
    read 0xFF41 .stat rfl rfl, back 0xFF0F .iflag rfl rfl, back 0xFF02 .sc rfl rfl, back 0xFF07 .tac rfl rfl,
    back 0xFF41 .stat rfl rfl, back 0xFF04 .div rfl rfl]
  refine ⟨p1_high _ _, sc_high _ _, tac_high _, iflag_high _, statByte_high _ _ _, iflag_of_byte v, sc_of_byte v, ?_,
    s.ioRead_statWrite v, ?_, s.busWrite_io _ v .ly rfl rfl, fun a ha => ?_, fun a ha => ?_, fun a ha => ?_⟩
  · rw [State.ioWrite, State.ioRead, State.tacWrite_tac, tac_of_byte]
  · rw [State.ioWrite, State.ioRead, State.divWrite_divCounter]; rfl
  · rcases plain_addresses a ha with rfl | ⟨hio, hp⟩
    · rfl
    · rw [back a _ hio rfl, s.ioRead_ioWrite_plain _ v hp]
  · replace ha := ha.imp_left fun e => show a.toNat = 0xFF03 by rw [e]; rfl
    have hio : region a = .io := region_io a (by omega)
    have hr := ioReg_unmapped a ha
    exact ⟨read a _ hio hr, s.busWrite_io a v _ hio hr⟩
  · have hio : region a = .io := region_io a (by omega)
    have hr := ioReg_audio a ha
    have haud : isAudio a = true := by simp [isAudio, hio, hr]
    exact ⟨s.busWrite_io a v _ hio hr, read a _ hio hr, by rw [State.afterRead, if_pos haud]⟩

end Sys2Proof.Machine
end


section
/-! Accesses to the address map (20_memory.md R200-R211): what the CPU reads and writes at an address that names a memory place, what
blocking does to it, and echo RAM. -/

namespace Sys2Proof.Machine

/-! ## Regions -/

theorem Region.range_disjoint (r q : Region) (h : r ≠ q) : r.range.2 < q.range.1 ∨ q.range.2 < r.range.1 := by
  revert h
  cases r <;> cases q <;> decide

/-- An address in a region's range is of that region (R200). -/
theorem region_of_range (r : Region) (a : Word) (h : r.range.1 ≤ a.toNat ∧ a.toNat ≤ r.range.2) : region a = r := by
  have ha := region_range a
  by_contra hne
  rcases Region.range_disjoint _ _ hne with hd | hd <;> omega

theorem toNat_word (n : Nat) (h : n < 0x10000) : (BitVec.ofNat 16 n).toNat = n := Nat.mod_eq_of_lt h

/-! ## An address that names a memory place -/

/-- The CPU may not read the place now (R206, R210). -/
def State.readBlocked (s : State) (a : Word) : Bool :=
  match region a with
  | .vram => s.vramReadBlocked
  | .oam => s.oamBlocked
  | .rom0 | .romX | .extRam | .wram | .echo | .unused | .io | .hram | .ie => false

/-- The CPU may not write the place now (R206, R210). -/
def State.writeBlocked (s : State) (a : Word) : Bool :=
  match region a with
  | .vram => s.vramWriteBlocked
  | .oam => s.oamBlocked
  | .rom0 | .romX | .extRam | .wram | .echo | .unused | .io | .hram | .ie => false

/-- A read of a memory place gives its byte, or the fill value while it is blocked (R201). -/
theorem State.peek_of_place (s : State) (a : Word) (p : Nat) (h : s.place a = some p) :
    s.peek a = if s.readBlocked a = true then fillByte else Memory.read s.mem p := by
  have hs : s.stored a = Memory.read s.mem p := by rw [State.stored, h]
  unfold State.peek State.busRead State.readBlocked
  unfold State.place at h
  cases hr : region a with
  | rom0 | romX | unused | io | ie => simp [hr] at h
  | vram | extRam | wram | echo | oam | hram => simp [hs]

/-- A write to a memory place stores there, or does nothing while it is blocked (R202). -/
theorem State.busWrite_of_place (s : State) (a : Word) (v : Byte) (p : Nat) (h : s.place a = some p) :
    s.busWrite a v = if s.writeBlocked a = true then s else s.store p v := by
  have hs : s.storeAt a v = s.store p v := by rw [State.storeAt, h]
  unfold State.busWrite State.writeBlocked
  unfold State.place at h
  cases hr : region a with
  | rom0 | romX | unused | io | ie => simp [hr] at h
  | vram | extRam | wram | echo | oam | hram => simp [hs]

/-- A byte written to a place that is not blocked is read back: the write changes neither the place nor the blocking. -/
theorem State.peek_busWrite_of_place (s : State) (a : Word) (v : Byte) (p : Nat) (h : s.place a = some p)
    (hr : s.readBlocked a = false) (hw : s.writeBlocked a = false) : (s.busWrite a v).peek a = v := by
  have hplace : (s.store p v).place a = some p := h
  have hread : (s.store p v).readBlocked a = false := hr
  rw [s.busWrite_of_place a v p h, hw, if_neg Bool.false_ne_true, State.peek_of_place _ a p hplace, hread,
    if_neg Bool.false_ne_true]
  exact Memory.read_write_same _ _ _

/-! ## The addresses that name a place -/

theorem State.place_vram (s : State) (a : Word) (h : region a = .vram) : s.place a = some a.toNat := by
  rw [State.place, h]

theorem State.place_oam (s : State) (a : Word) (h : region a = .oam) : s.place a = some a.toNat := by
  rw [State.place, h]

theorem State.place_echo (s : State) (a : Word) (h : region a = .echo) :
    s.place a = some (0xC000 + (a.toNat - 0xE000) % 0x2000) := by
  rw [State.place, h]

theorem State.place_extRam (s : State) (a : Word) (h : region a = .extRam) :
    s.place a = if s.extRamOn = true then some (extRamPlace (s.extRamIndex (a.toNat - 0xA000))) else none := by
  rw [State.place, h]

/-- The addresses of R216 name a place that is not blocked, external RAM and the blocked regions under their conditions. -/
theorem State.place_of_accessible (s : State) (a : Word)
    (h : region a ∈ [Region.wram, Region.echo, Region.hram] ∨
      (region a = .vram ∧ s.vramReadBlocked = false ∧ s.vramWriteBlocked = false) ∨
      (region a = .oam ∧ s.oamBlocked = false) ∨ (region a = .extRam ∧ s.extRamOn = true)) :
    (∃ p, s.place a = some p) ∧ s.readBlocked a = false ∧ s.writeBlocked a = false := by
  unfold State.place State.readBlocked State.writeBlocked
  rcases h with hr | ⟨hr, hread, hwrite⟩ | ⟨hr, hoam⟩ | ⟨hr, hon⟩
  · simp only [List.mem_cons, List.not_mem_nil, or_false] at hr
    rcases hr with hr | hr | hr <;> rw [hr] <;> exact ⟨⟨_, rfl⟩, rfl, rfl⟩
  · rw [hr]; exact ⟨⟨_, rfl⟩, hread, hwrite⟩
  · rw [hr]; exact ⟨⟨_, rfl⟩, hoam, hoam⟩
  · rw [hr]; exact ⟨⟨_, if_pos hon⟩, rfl, rfl⟩

/-! ## Echo RAM -/

/-- The two addresses of offset `k` name one place (R209). -/
theorem State.place_echo_wram (s : State) (k : Nat) (hk : k ≤ 0x1DFF) (base : Nat) (hb : base = 0xE000 ∨ base = 0xC000) :
    s.place (BitVec.ofNat 16 (base + k)) = some (0xC000 + k) ∧ s.readBlocked (BitVec.ofNat 16 (base + k)) = false ∧
      s.writeBlocked (BitVec.ofNat 16 (base + k)) = false := by
  have hn : (BitVec.ofNat 16 (base + k)).toNat = base + k := toNat_word _ (by omega)
  unfold State.readBlocked State.writeBlocked
  rcases hb with rfl | rfl
  · have hr := region_of_range .echo _ (show 0xE000 ≤ _ ∧ _ ≤ 0xFDFF by rw [hn]; omega)
    rw [s.place_echo _ hr, hr, hn]
    exact ⟨congrArg some (by omega), rfl, rfl⟩
  · have hr := region_of_range .wram _ (show 0xC000 ≤ _ ∧ _ ≤ 0xDFFF by rw [hn]; omega)
    rw [s.place_of_ram _ (by simp [hr]), hr, hn]
    exact ⟨rfl, rfl, rfl⟩

/-- Settles O52: each address names a place that the write and the read share, IE apart; the two echoing addresses name one place. -/
theorem readAfterWriteAndEcho : Obligations.ReadAfterWriteAndEcho := by
  refine ⟨fun s a v h => ?_, fun s k v hk => ?_⟩
  · by_cases hie : region a = .ie
    · unfold State.busWrite State.peek State.busRead
      rw [hie]
    · obtain ⟨⟨p, hp⟩, hr, hw⟩ := s.place_of_accessible a (by simpa [hie] using h)
      exact s.peek_busWrite_of_place a v p hp hr hw
  · obtain ⟨hpe, hre, hwe⟩ := s.place_echo_wram k hk 0xE000 (.inl rfl)
    obtain ⟨hpw, hrw, hww⟩ := s.place_echo_wram k hk 0xC000 (.inr rfl)
    have hread : s.peek (BitVec.ofNat 16 (0xE000 + k)) = s.peek (BitVec.ofNat 16 (0xC000 + k)) := by
      rw [s.peek_of_place _ _ hpe, s.peek_of_place _ _ hpw, hre, hrw]
    have hwrite : s.busWrite (BitVec.ofNat 16 (0xE000 + k)) v = s.busWrite (BitVec.ofNat 16 (0xC000 + k)) v := by
      rw [s.busWrite_of_place _ v _ hpe, s.busWrite_of_place _ v _ hpw, hwe, hww]
    refine ⟨hread, ?_, ?_, hwrite⟩
    · rw [hwrite]; exact s.peek_busWrite_of_place _ v _ hpw hrw hww
    · rw [← hwrite]; exact s.peek_busWrite_of_place _ v _ hpe hre hwe

/-! ## Blocked and unused addresses -/

theorem State.peek_unused (s : State) (a : Word) (h : region a = .unused) : s.peek a = 0xFF := by
  unfold State.peek State.busRead
  rw [h]; rfl

theorem State.busWrite_unused (s : State) (a : Word) (v : Byte) (h : region a = .unused) : s.busWrite a v = s := by
  unfold State.busWrite
  rw [h]

/-- Settles O53: VRAM and OAM addresses name places whose blocking the mode decides; the unused range names none. -/
theorem blockedAndUnusedRanges : Obligations.BlockedAndUnusedRanges := by
  intro s a v
  refine ⟨fun hon hmode hlo hhi => ?_, fun hon hmode hblock hlo hhi => ?_, fun hlo hhi => ?_⟩
  · have hr := region_of_range .vram a ⟨hlo, hhi⟩
    have hp := s.place_vram a hr
    have hw : s.writeBlocked a = true := by simp [State.writeBlocked, hr, State.vramWriteBlocked, hon, hmode]
    have hread : s.readBlocked a = s.launch.params.vramReadBlock := by
      simp [State.readBlocked, hr, State.vramReadBlocked, hon, hmode]
    rw [s.busWrite_of_place a v _ hp, s.peek_of_place a _ hp, hw, hread]
    exact ⟨if_pos rfl, fun h => if_pos h, fun h => if_neg (by simp [h])⟩
  · have hr := region_of_range .oam a ⟨hlo, hhi⟩
    have hp := s.place_oam a hr
    have hoam : s.oamBlocked = true := by rcases hmode with hm | hm <;> simp [State.oamBlocked, hblock, hon, hm]
    have hw : s.writeBlocked a = true := by rw [State.writeBlocked, hr, hoam]
    have hread : s.readBlocked a = true := by rw [State.readBlocked, hr, hoam]
    rw [s.busWrite_of_place a v _ hp, s.peek_of_place a _ hp, hw, hread]
    exact ⟨if_pos rfl, if_pos rfl⟩
  · have hr := region_of_range .unused a ⟨hlo, hhi⟩
    exact ⟨s.busWrite_unused a v hr, s.peek_unused a hr⟩

end Sys2Proof.Machine
end


section
/-! Cartridge banking (20_memory.md R203-R205, R253-R264): what a mapper command writes, and the bank that each ROM window shows. -/

namespace Sys2Proof.Machine

/-! ## A write to ROM is a mapper command -/

theorem State.busWrite_rom (s : State) (a : Word) (v : Byte) (h : a.toNat ≤ 0x7FFF) :
    s.busWrite a v = s.mapperWrite a v := by
  unfold State.busWrite
  by_cases h0 : a.toNat ≤ 0x3FFF
  · rw [region_of_range .rom0 a ⟨Nat.zero_le _, h0⟩]
  · rw [region_of_range .romX a ⟨by simp only [Region.range]; omega, h⟩]

theorem State.mapperWrite_eq (s : State) (a : Word) (v : Byte) :
    s.mapperWrite a v = { s with mapper := (s.mapperWrite a v).mapper } := by
  unfold State.mapperWrite
  cases s.launch.cart.mapper <;> rfl

theorem State.mapperWrite_romOnly (s : State) (a : Word) (v : Byte) (h : s.launch.cart.mapper = .romOnly) :
    s.mapperWrite a v = s := by
  rw [State.mapperWrite, h]

theorem State.busWrite_mbc1 (s : State) (a : Word) (v : Byte) (h : s.launch.cart.mapper = .mbc1) (ha : a.toNat ≤ 0x7FFF) :
    (s.busWrite a v).mapper = mbc1Write s.mapper a v := by
  rw [s.busWrite_rom a v ha, State.mapperWrite, h]

theorem State.busWrite_mbc3 (s : State) (a : Word) (v : Byte) (h : s.launch.cart.mapper = .mbc3) (ha : a.toNat ≤ 0x7FFF) :
    (s.busWrite a v).mapper = mbc3Write s.mapper a v := by
  rw [s.busWrite_rom a v ha, State.mapperWrite, h]

theorem State.busWrite_mbc5 (s : State) (a : Word) (v : Byte) (h : s.launch.cart.mapper = .mbc5) (ha : a.toNat ≤ 0x7FFF) :
    (s.busWrite a v).mapper = mbc5Write s.launch.cart.rumble s.mapper a v := by
  rw [s.busWrite_rom a v ha, State.mapperWrite, h]

/-- Settles O54: the write is the mapper's command. -/
theorem romWritesAreMapperCommands : Obligations.RomWritesAreMapperCommands := by
  intro s a v ha
  rw [s.busWrite_rom a v ha]
  exact ⟨s.mapperWrite_eq a v, s.mapperWrite_romOnly a v⟩

/-! ## The bits that a command stores, as numbers -/

theorem extractLow_toNat {w : Nat} (x : BitVec w) (n : Nat) : (x.extractLsb' 0 n).toNat = x.toNat % 2 ^ n := by
  rw [BitVec.extractLsb'_toNat, Nat.shiftRight_zero]

theorem extractLow_eq_ofNat {w : Nat} (x : BitVec w) (n : Nat) : x.extractLsb' 0 n = BitVec.ofNat n (x.toNat % 2 ^ n) := by
  rw [← extractLow_toNat, BitVec.ofNat_toNat, BitVec.setWidth_eq]

theorem extractLow_eq_zero {w : Nat} (x : BitVec w) (n : Nat) : x.extractLsb' 0 n = 0#n ↔ x.toNat % 2 ^ n = 0 := by
  rw [← BitVec.toNat_inj, extractLow_toNat, BitVec.toNat_ofNat, Nat.zero_mod]

theorem append_eq_ofNat {m n : Nat} (x : BitVec m) (y : BitVec n) :
    x ++ y = BitVec.ofNat (m + n) (x.toNat * 2 ^ n + y.toNat) := by
  rw [← Nat.shiftLeft_eq, Nat.shiftLeft_add_eq_or_of_lt y.isLt, ← BitVec.toNat_append, BitVec.ofNat_toNat,
    BitVec.setWidth_eq]

/-- The RAM enable of MBC1 and MBC3 looks at the low four bits (R254, R259). -/
theorem ramEnable_bits (v : Byte) : decide (v.extractLsb' 0 4 = 0xA#4) = decide (v.toNat % 16 = 0xA) := by
  rw [decide_eq_decide, ← BitVec.toNat_inj, extractLow_toNat]
  rfl

/-- MBC1's lower bank: five bits, 0 becoming 1 (R255). -/
theorem mbc1Lower_bits (v : Byte) : (if v.extractLsb' 0 5 = 0#5 then 1#5 else v.extractLsb' 0 5) =
    BitVec.ofNat 5 (if v.toNat % 32 = 0 then 1 else v.toNat % 32) := by
  rw [apply_ite (BitVec.ofNat 5)]
  exact if_congr (extractLow_eq_zero v 5) rfl (extractLow_eq_ofNat v 5)

/-- MBC3's ROM bank: seven bits, 0 becoming 1 (R259). -/
theorem mbc3Bank_bits (v : Byte) : (if v.extractLsb' 0 7 = 0#7 then 1#9 else (v.extractLsb' 0 7).zeroExtend 9) =
    BitVec.ofNat 9 (if v.toNat % 128 = 0 then 1 else v.toNat % 128) := by
  have hext : (v.extractLsb' 0 7).zeroExtend 9 = BitVec.ofNat 9 (v.toNat % 128) :=
    (BitVec.ofNat_toNat 9 _).symm.trans (congrArg (BitVec.ofNat 9) (extractLow_toNat v 7))
  rw [apply_ite (BitVec.ofNat 9)]
  exact if_congr (extractLow_eq_zero v 7) rfl hext

/-- MBC5's RAM bank: four bits, three with the rumble motor (R261). -/
theorem mbc5RamSel_bits (rumble : Bool) (v : Byte) : (if rumble = true then v &&& 0x07 else v &&& 0x0F) =
    BitVec.ofNat 8 (v.toNat % if rumble = true then 8 else 16) := by
  have h3 : (v &&& 0x07).toNat = v.toNat % 8 := Nat.and_two_pow_sub_one_eq_mod v.toNat 3
  have h4 : (v &&& 0x0F).toNat = v.toNat % 16 := Nat.and_two_pow_sub_one_eq_mod v.toNat 4
  split
  · rw [← h3, BitVec.ofNat_toNat, BitVec.setWidth_eq]
  · rw [← h4, BitVec.ofNat_toNat, BitVec.setWidth_eq]

/-! ## The command ranges -/

theorem mbc1Write_ramEnable (m : MapperRegs) (a : Word) (v : Byte) (h : a.toNat ≤ 0x1FFF) :
    mbc1Write m a v = { m with ramEnabled := decide (v.toNat % 16 = 0xA) } := by
  rw [mbc1Write, if_pos h, ramEnable_bits]

theorem mbc1Write_lower (m : MapperRegs) (a : Word) (v : Byte) (hlo : 0x2000 ≤ a.toNat) (hhi : a.toNat ≤ 0x3FFF) :
    mbc1Write m a v = { m with lower := BitVec.ofNat 5 (if v.toNat % 32 = 0 then 1 else v.toNat % 32) } := by
  rw [mbc1Write, if_neg (by omega), if_pos hhi, mbc1Lower_bits]

theorem mbc1Write_upper (m : MapperRegs) (a : Word) (v : Byte) (hlo : 0x4000 ≤ a.toNat) (hhi : a.toNat ≤ 0x5FFF) :
    mbc1Write m a v = { m with upper := BitVec.ofNat 2 (v.toNat % 4) } := by
  rw [mbc1Write, if_neg (by omega), if_neg (by omega), if_pos hhi, extractLow_eq_ofNat]
  rfl

theorem mbc1Write_mode (m : MapperRegs) (a : Word) (v : Byte) (hlo : 0x6000 ≤ a.toNat) :
    mbc1Write m a v = { m with mode := decide (v.toNat % 2 = 1) } := by
  rw [mbc1Write, if_neg (by omega), if_neg (by omega), if_neg (by omega), BitVec.getLsbD, Nat.testBit_zero]

theorem mbc3Write_ramEnable (m : MapperRegs) (a : Word) (v : Byte) (h : a.toNat ≤ 0x1FFF) :
    mbc3Write m a v = { m with ramEnabled := decide (v.toNat % 16 = 0xA) } := by
  rw [mbc3Write, if_pos h, ramEnable_bits]

theorem mbc3Write_romBank (m : MapperRegs) (a : Word) (v : Byte) (hlo : 0x2000 ≤ a.toNat) (hhi : a.toNat ≤ 0x3FFF) :
    mbc3Write m a v = { m with romBank := BitVec.ofNat 9 (if v.toNat % 128 = 0 then 1 else v.toNat % 128) } := by
  rw [mbc3Write, if_neg (by omega), if_pos hhi, mbc3Bank_bits]

theorem mbc3Write_ramSel (m : MapperRegs) (a : Word) (v : Byte) (hlo : 0x4000 ≤ a.toNat) (hhi : a.toNat ≤ 0x5FFF) :
    mbc3Write m a v = { m with ramSel := v } := by
  rw [mbc3Write, if_neg (by omega), if_neg (by omega), if_pos hhi]

theorem mbc3Write_none (m : MapperRegs) (a : Word) (v : Byte) (hlo : 0x6000 ≤ a.toNat) : mbc3Write m a v = m := by
  rw [mbc3Write, if_neg (by omega), if_neg (by omega), if_neg (by omega)]

section
variable (rumble : Bool) (m : MapperRegs) (a : Word) (v : Byte)

theorem mbc5Write_ramEnable (h : a.toNat ≤ 0x1FFF) :
    mbc5Write rumble m a v = { m with ramEnabled := decide (v.toNat = 0x0A) } := by
  have hv : v = 0x0A ↔ v.toNat = 0x0A := BitVec.toNat_inj.symm
  rw [mbc5Write, if_pos h, decide_eq_decide.2 hv]

/-- The low eight bits of the bank; the ninth stays (R261). -/
theorem mbc5Write_romBankLow (hlo : 0x2000 ≤ a.toNat) (hhi : a.toNat ≤ 0x2FFF) :
    mbc5Write rumble m a v = { m with romBank := BitVec.ofNat 9 (m.romBank.toNat / 256 * 256 + v.toNat) } := by
  have hbank : m.romBank.toNat / 2 ^ 8 % 2 ^ 1 = m.romBank.toNat / 256 := Nat.mod_eq_of_lt (by omega)
  rw [mbc5Write, if_neg (by omega), if_pos hhi, append_eq_ofNat, BitVec.extractLsb'_toNat, Nat.shiftRight_eq_div_pow, hbank]
  rfl

/-- The ninth bit of the bank; the low eight stay (R261). -/
theorem mbc5Write_romBankHigh (hlo : 0x3000 ≤ a.toNat) (hhi : a.toNat ≤ 0x3FFF) :
    mbc5Write rumble m a v = { m with romBank := BitVec.ofNat 9 (v.toNat % 2 * 256 + m.romBank.toNat % 256) } := by
  rw [mbc5Write, if_neg (by omega), if_neg (by omega), if_pos hhi, append_eq_ofNat, extractLow_toNat, extractLow_toNat]
  rfl

theorem mbc5Write_ramSel (hlo : 0x4000 ≤ a.toNat) (hhi : a.toNat ≤ 0x5FFF) :
    mbc5Write rumble m a v = { m with ramSel := BitVec.ofNat 8 (v.toNat % if rumble = true then 8 else 16) } := by
  rw [mbc5Write, if_neg (by omega), if_neg (by omega), if_neg (by omega), if_pos hhi, mbc5RamSel_bits]

theorem mbc5Write_none (hlo : 0x6000 ≤ a.toNat) : mbc5Write rumble m a v = m := by
  rw [mbc5Write, if_neg (by omega), if_neg (by omega), if_neg (by omega), if_neg (by omega)]

end

/-! ## Bank numbers -/

/-- Masking by the count minus one is the remainder, when the count is a power of two (R263). -/
theorem maskBank_eq_mod (bank count : Nat) (h : ∃ n, count = 2 ^ n) : maskBank bank count = bank % count := by
  obtain ⟨n, rfl⟩ := h
  exact Nat.and_two_pow_sub_one_eq_mod bank n

theorem romBanks_two_pow (c : Cartridge) (h : c.romBanksOk = true) : ∃ n, c.romBanks = 2 ^ n := by
  have hmem : c.romBanks ∈ (List.range 9).map (fun k => 2 ^ (k + 1)) := of_decide_eq_true h
  obtain ⟨k, -, hk⟩ := List.mem_map.1 hmem
  exact ⟨k + 1, hk.symm⟩

/-- MBC1's bank number, `upper` above the five bits of `lower` (R258). -/
theorem mbc1_bank_number (m : MapperRegs) :
    (m.upper.toNat <<< 5) ||| m.lower.toNat = m.upper.toNat * 32 + m.lower.toNat := by
  rw [← Nat.shiftLeft_add_eq_or_of_lt m.lower.isLt, Nat.shiftLeft_eq]

theorem State.bankX_mbc1 (s : State) (hm : s.launch.cart.mapper = .mbc1) (hb : s.launch.cart.romBanksOk = true) :
    s.bankX = (s.mapper.upper.toNat * 32 + s.mapper.lower.toNat) % s.launch.cart.romBanks := by
  rw [State.bankX, hm]
  dsimp only
  rw [mbc1_bank_number, maskBank_eq_mod _ _ (romBanks_two_pow _ hb)]

theorem State.bankX_mbc3_mbc5 (s : State) (hm : s.launch.cart.mapper = .mbc3 ∨ s.launch.cart.mapper = .mbc5)
    (hb : s.launch.cart.romBanksOk = true) : s.bankX = s.mapper.romBank.toNat % s.launch.cart.romBanks := by
  have hmask := maskBank_eq_mod s.mapper.romBank.toNat _ (romBanks_two_pow _ hb)
  rw [State.bankX]
  rcases hm with hm | hm <;> rw [hm] <;> exact hmask

theorem State.bank0_mbc1 (s : State) (hm : s.launch.cart.mapper = .mbc1) (hb : s.launch.cart.romBanksOk = true) :
    s.bank0 = if s.launch.params.mbc1Bank0Remap = true ∧ s.mapper.mode = true then
      s.mapper.upper.toNat * 32 % s.launch.cart.romBanks else 0 := by
  rw [State.bank0, maskBank_eq_mod _ _ (romBanks_two_pow _ hb), Nat.shiftLeft_eq]
  simp only [hm, true_and]

theorem State.bank0_not_mbc1 (s : State) (hm : s.launch.cart.mapper ≠ .mbc1) : s.bank0 = 0 :=
  if_neg fun h => hm h.1

/-! ## The ROM windows -/

/-- 0x0000-0x3FFF shows bank `bank0()` (R203). -/
theorem State.peek_rom0 (s : State) (o : Nat) (ho : o < 0x4000) :
    s.peek (BitVec.ofNat 16 o) = romByte s.launch.rom (s.bank0 * 0x4000 + o) := by
  have hn := toNat_word o (by omega)
  have hr := region_of_range .rom0 (BitVec.ofNat 16 o) (show 0x0000 ≤ _ ∧ _ ≤ 0x3FFF by rw [hn]; omega)
  unfold State.peek State.busRead State.romRead
  rw [hr, hn]

/-- 0x4000-0x7FFF shows bank `bankX()` (R204). -/
theorem State.peek_romX (s : State) (o : Nat) (ho : o < 0x4000) :
    s.peek (BitVec.ofNat 16 (0x4000 + o)) = romByte s.launch.rom (s.bankX * 0x4000 + o) := by
  have hn := toNat_word (0x4000 + o) (by omega)
  have hr := region_of_range .romX (BitVec.ofNat 16 (0x4000 + o)) (show 0x4000 ≤ _ ∧ _ ≤ 0x7FFF by rw [hn]; omega)
  unfold State.peek State.busRead State.romRead
  rw [hr, hn, Nat.add_sub_cancel_left]

/-- Settles O55: the write is MBC1's command, and the windows show its two banks. -/
theorem mbc1Banking : Obligations.Mbc1Banking := by
  intro s a v o hm hb ho
  have hw (ha : a.toNat ≤ 0x7FFF) := s.busWrite_mbc1 a v hm ha
  refine ⟨fun h => ?_, fun hlo hhi => ?_, fun hlo hhi => ?_, fun hlo hhi => ?_, ?_, ?_⟩
  · rw [hw (by omega), mbc1Write_ramEnable _ _ _ h]
  · rw [hw (by omega), mbc1Write_lower _ _ _ hlo hhi]
  · rw [hw (by omega), mbc1Write_upper _ _ _ hlo hhi]
  · rw [hw hhi, mbc1Write_mode _ _ _ hlo]
  · rw [s.peek_romX o ho, s.bankX_mbc1 hm hb]; rfl
  · rw [s.peek_rom0 o ho, s.bank0_mbc1 hm hb]; rfl

/-- Settles O56: the write is MBC3's or MBC5's command, and the windows show the selected bank and bank 0. -/
theorem mbc3AndMbc5Banking : Obligations.Mbc3AndMbc5Banking := by
  intro s a v o hb ho
  refine ⟨fun hm => ?_, fun hm => ?_, fun hm => ⟨?_, ?_⟩⟩
  · have hw (ha : a.toNat ≤ 0x7FFF) := s.busWrite_mbc3 a v hm ha
    refine ⟨fun h => ?_, fun hlo hhi => ?_, fun hlo hhi => ?_, fun hlo hhi => ?_⟩
    · rw [hw (by omega), mbc3Write_ramEnable _ _ _ h]
    · rw [hw (by omega), mbc3Write_romBank _ _ _ hlo hhi]
    · rw [hw (by omega), mbc3Write_ramSel _ _ _ hlo hhi]
    · rw [hw hhi, mbc3Write_none _ _ _ hlo]
  · have hw (ha : a.toNat ≤ 0x7FFF) := s.busWrite_mbc5 a v hm ha
    refine ⟨fun h => ?_, fun hlo hhi => ?_, fun hlo hhi => ?_, fun hlo hhi => ?_, fun hlo hhi => ?_⟩
    · rw [hw (by omega), mbc5Write_ramEnable _ _ _ _ h]
    · rw [hw (by omega), mbc5Write_romBankLow _ _ _ _ hlo hhi]
    · rw [hw (by omega), mbc5Write_romBankHigh _ _ _ _ hlo hhi]
    · rw [hw (by omega), mbc5Write_ramSel _ _ _ _ hlo hhi]
    · rw [hw hhi, mbc5Write_none _ _ _ _ hlo]
  · rw [s.peek_romX o ho, s.bankX_mbc3_mbc5 hm hb]; rfl
  · have hne : s.launch.cart.mapper ≠ .mbc1 := by rcases hm with hm | hm <;> simp [hm]
    rw [s.peek_rom0 o ho, s.bank0_not_mbc1 hne, Nat.zero_mul, Nat.zero_add]; rfl

end Sys2Proof.Machine
end


section
/-! External RAM (20_memory.md R207, R253, R260, R265): when it answers, and the byte of the cartridge RAM that an address is. -/

namespace Sys2Proof.Machine

/-- External RAM answers: there is some, it is enabled or the cartridge is ROM only, and no clock register is selected (R207). -/
theorem State.extRamOn_iff (s : State) : s.extRamOn = true ↔ s.launch.cart.ramSize ≠ 0 ∧
    (s.launch.cart.mapper = .romOnly ∨ s.mapper.ramEnabled = true) ∧
      (s.launch.cart.mapper = .mbc3 → s.mapper.ramSel.toNat ≤ 3) := by
  unfold State.extRamOn
  cases s.launch.cart.mapper <;> simp

theorem ramBanks_two_pow (c : Cartridge) (h : c.ramSizeOk = true) : ∃ n, ramBanks c = 2 ^ n := by
  have hmem : c.ramSize ∈ [0, 2048, 8192, 32768, 65536, 131072] := of_decide_eq_true h
  unfold ramBanks
  simp only [List.mem_cons, List.not_mem_nil, or_false] at hmem
  rcases hmem with e | e | e | e | e | e <;> rw [e]
  · exact ⟨0, rfl⟩
  · exact ⟨0, rfl⟩
  · exact ⟨0, rfl⟩
  · exact ⟨2, rfl⟩
  · exact ⟨3, rfl⟩
  · exact ⟨4, rfl⟩

/-- The RAM bank, as a remainder (R253, R258, R260, R262). -/
theorem State.ramBank_eq_mod (s : State) (h : s.launch.cart.ramSizeOk = true) :
    s.ramBank = match s.launch.cart.mapper with
      | .romOnly => 0
      | .mbc1 => if s.mapper.mode = true then s.mapper.upper.toNat % ramBanks s.launch.cart else 0
      | .mbc3 => s.mapper.ramSel.toNat % ramBanks s.launch.cart
      | .mbc5 => s.mapper.ramSel.toNat % ramBanks s.launch.cart := by
  have hmask (bank : Nat) := maskBank_eq_mod bank _ (ramBanks_two_pow _ h)
  unfold State.ramBank
  cases s.launch.cart.mapper with
  | romOnly => rfl
  | mbc1 =>
    dsimp only
    rw [hmask]
    split
    · rfl
    · exact Nat.zero_mod _
  | mbc3 | mbc5 => exact hmask _

/-! ## The window -/

theorem region_extRam (o : Nat) (ho : o < 0x2000) : region (BitVec.ofNat 16 (0xA000 + o)) = .extRam :=
  region_of_range .extRam _ (show 0xA000 ≤ _ ∧ _ ≤ 0xBFFF by rw [toNat_word _ (by omega)]; omega)

theorem State.place_extRam_window (s : State) (o : Nat) (ho : o < 0x2000) : s.place (BitVec.ofNat 16 (0xA000 + o)) =
    if s.extRamOn = true then some (0x10000 + (s.ramBank * 0x2000 + o) % s.launch.cart.ramSize) else none := by
  rw [s.place_extRam _ (region_extRam o ho), toNat_word _ (by omega), Nat.add_sub_cancel_left]
  rfl

theorem State.extRam_of_no_place (s : State) (a : Word) (v : Byte) (hr : region a = .extRam) (hp : s.place a = none) :
    s.peek a = 0xFF ∧ s.busWrite a v = s := by
  unfold State.peek State.busRead State.busWrite State.stored State.storeAt
  rw [hr, hp]
  exact ⟨rfl, rfl⟩

/-- Settles O57: the window names a byte of the cartridge RAM exactly when it answers. -/
theorem externalRam : Obligations.ExternalRam := by
  intro s v o ho hsize
  have hr := region_extRam o ho
  have hplace := s.place_extRam_window o ho
  refine ⟨fun hoff => ?_, fun hon => ?_⟩
  · exact s.extRam_of_no_place _ v hr (hplace.trans (if_neg (mt s.extRamOn_iff.1 hoff)))
  · rw [if_pos (s.extRamOn_iff.2 hon), s.ramBank_eq_mod hsize] at hplace
    have hread : s.readBlocked (BitVec.ofNat 16 (0xA000 + o)) = false := by rw [State.readBlocked, hr]
    have hwrite : s.writeBlocked (BitVec.ofNat 16 (0xA000 + o)) = false := by rw [State.writeBlocked, hr]
    exact ⟨(s.peek_of_place _ _ hplace).trans (if_neg (by simp [hread])),
      (s.busWrite_of_place _ v _ hplace).trans (if_neg (by simp [hwrite]))⟩

end Sys2Proof.Machine
end


section
/-! Load's checks of the header (20_memory.md R250-R252, 70_reset_and_hazards.md R1200), and that no step and no instruction stops
(R217, R341, R1052). -/

namespace Sys2Proof.Machine

/-! ## The header's three bytes -/

/-- The mapper-type bytes that Load supports (R250). -/
def supportedTypes : List Byte := [0x00#8, 0x08#8, 0x09#8, 0x01#8, 0x02#8, 0x03#8, 0x11#8, 0x12#8, 0x13#8, 0x19#8, 0x1A#8,
  0x1B#8, 0x1C#8, 0x1D#8, 0x1E#8]

theorem mapperType_unsupported (ty : Byte) (h : ty ∉ supportedTypes) : mapperType ty = none := by
  simp only [supportedTypes, List.mem_cons, List.not_mem_nil, or_false, not_or] at h
  simp only [mapperType, BitVec.ofNat_eq_ofNat, h, if_false]

/-- What a type byte says of the cartridge, by the bytes that say it (R250). -/
structure MapperType.Says (t : MapperType) (ty : Byte) : Prop where
  ram : t.ram = true ↔ ty ∈ [0x08#8, 0x09#8, 0x02#8, 0x03#8, 0x12#8, 0x13#8, 0x1A#8, 0x1B#8, 0x1D#8, 0x1E#8]
  romOnly : t.mapper = .romOnly ↔ ty ∈ [0x00#8, 0x08#8, 0x09#8]
  mbc1 : t.mapper = .mbc1 ↔ ty ∈ [0x01#8, 0x02#8, 0x03#8]
  mbc3 : t.mapper = .mbc3 ↔ ty ∈ [0x11#8, 0x12#8, 0x13#8]
  rumble : t.rumble = true ↔ ty ∈ [0x1C#8, 0x1D#8, 0x1E#8]

theorem mapperType_supported : ∀ ty ∈ supportedTypes, ∃ t, mapperType ty = some t ∧ t.Says ty := by
  simp only [supportedTypes, List.forall_mem_cons, List.not_mem_nil, false_implies, implies_true, and_true]
  and_intros <;> exact ⟨_, rfl, by constructor <;> decide⟩

theorem romBanksOf_known (code : Byte) (h : code.toNat ≤ 8) : romBanksOf code = some (2 ^ (code.toNat + 1)) := by
  rw [romBanksOf, if_pos h, Nat.shiftLeft_eq, Nat.pow_succ']

theorem romBanksOf_unknown (code : Byte) (h : code.toNat > 8) : romBanksOf code = none := if_neg (Nat.not_le.2 h)

theorem ramSizeOf_known (code : Byte) (h : code.toNat ≤ 5) :
    ramSizeOf code = some ([0, 2048, 8192, 32768, 131072, 65536].getD code.toNat 0) := by
  revert code
  decide

theorem ramSizeOf_unknown (code : Byte) (h : code.toNat > 5) : ramSizeOf code = none := by
  revert code
  decide

/-! ## Load -/

theorem load_truncated (rom : RomImage) (params : Params) (args : InitArgs) (h : rom.length < 0x150) :
    load rom params args = .fault .loadTruncated := if_pos h

theorem load_of_parseHeader_error (rom : RomImage) (params : Params) (args : InitArgs) (f : Fault) (hl : 0x150 ≤ rom.length)
    (h : parseHeader rom = .error f) : load rom params args = .fault f := by
  rw [load, if_neg (by omega), h]

theorem load_of_parseHeader_ok (rom : RomImage) (params : Params) (args : InitArgs) (cart : Cartridge)
    (hl : 0x150 ≤ rom.length) (h : parseHeader rom = .ok cart) :
    load rom params args = .next (State.afterLoad { rom := rom, cart := cart, params := params } args) := by
  rw [load, if_neg (by omega), h]

/-- Settles O42: the type byte is looked up first, then the two size codes. -/
theorem loadChecksTheHeader : Obligations.LoadChecksTheHeader := by
  intro rom params args
  refine ⟨load_truncated rom params args, fun hl ht => ?_, fun hl ht hcode => ?_, fun hl ht hsz hrs => ?_⟩
  · exact load_of_parseHeader_error _ _ _ _ hl (by rw [parseHeader, mapperType_unsupported _ ht])
  · obtain ⟨t, ht, -⟩ := mapperType_supported _ ht
    refine load_of_parseHeader_error _ _ _ _ hl ?_
    rw [parseHeader, ht]
    by_cases hsz : (romByte rom 0x148).toNat ≤ 8
    · rw [romBanksOf_known _ hsz, ramSizeOf_unknown _ (hcode.resolve_left (Nat.not_lt.2 hsz))]
    · rw [romBanksOf_unknown _ (Nat.not_le.1 hsz)]
  · obtain ⟨t, ht, hram, hrom, h1, h3, hrumble⟩ := mapperType_supported _ ht
    have hok : parseHeader rom = .ok { mapper := t.mapper, rumble := t.rumble, battery := t.battery
                                       romBanks := 2 ^ ((romByte rom 0x148).toNat + 1)
                                       ramSize := if t.ram = true then
                                         [0, 2048, 8192, 32768, 131072, 65536].getD (romByte rom 0x149).toNat 0 else 0 } := by
      rw [parseHeader, ht, romBanksOf_known _ hsz, ramSizeOf_known _ hrs]
    exact ⟨_, load_of_parseHeader_ok rom params args _ hl hok, rfl, if_congr hram rfl rfl, hrom, h1, h3, hrumble⟩

/-! ## Every state has a next state -/

/-- Settles O34: every way a step and an instruction can go answers a next state. -/
theorem everyStepAnswersANextState : Obligations.EveryStepAnswersANextState :=
  ⟨fun s => (step_stepped s).imp fun _ h => h.1, fun i s => (exec_did s i).imp fun _ h => h.1⟩

end Sys2Proof.Machine
end


section
/-! The round trip of 30_encoding.md R300-R342: what an encoding decodes to, and what decoded bytes encode to. -/

namespace Sys2Proof

/-! ## Decoding an encoding -/

/-- A 16-bit immediate is put together again from its two bytes (30_encoding.md R320). -/
theorem decode_eq_of_cat_hi_lo {bs rest : List Byte} {f : Word → Instr} {nn : Word}
    (h : decode bs = .ok (f (cat (hi nn) (lo nn)), rest)) : decode bs = .ok (f nn, rest) := by
  rwa [Machine.cat_hi_lo] at h

/-- Settles O1, constructor by constructor: the first byte, and on the CB page the second, are literals, so decoding computes to
their entry of the page, applied to the bytes of the immediate. -/
theorem decodeOfEncodeIsTheInstruction : Obligations.DecodeOfEncodeIsTheInstruction := by
  intro i rest
  cases i with
  | ldBcD16 nn | ldDeD16 nn | ldHlD16 nn | ldSpD16 nn | ldIndA16Sp nn | ldIndA16A nn | ldAIndA16 nn
  | jpA16 nn | jpNzA16 nn | jpZA16 nn | jpNcA16 nn | jpCA16 nn
  | callA16 nn | callNzA16 nn | callZA16 nn | callNcA16 nn | callCA16 nn => exact decode_eq_of_cat_hi_lo rfl
  | _ => rfl

/-! ## Encoding what was decoded -/

/-- What decodes is an instruction as fetched, its bytes as many as the first says, and the rest (R301-R303). -/
theorem decode_ok {bs rest : List Byte} {i : Instr} (h : decode bs = .ok (i, rest)) :
    ∃ op b1 b2, i = decodeFetched op b1 b2 ∧ bs = [op, b1, b2].take (instrLength op) ++ rest := by
  match bs with
  | [] => cases h
  | op :: tail =>
    rcases Machine.instrLength_cases op with hl | hl | hl <;> simp only [decode, hl] at h
    · cases h
      exact ⟨op, 0, 0, rfl, by rw [hl]; rfl⟩
    · match tail with
      | [] => cases h
      | b1 :: tail =>
        cases h
        exact ⟨op, b1, 0, rfl, by rw [hl]; rfl⟩
    · match tail with
      | [] | [_] => cases h
      | b1 :: b2 :: tail =>
        cases h
        exact ⟨op, b1, b2, rfl, by rw [hl]; rfl⟩

/-- Settles O2: a decoded instruction is one as fetched, and that encodes to the bytes it was fetched from. -/
theorem decodedBytesEncodeBack : Obligations.DecodedBytesEncodeBack := by
  intro bs i rest h
  obtain ⟨op, b1, b2, rfl, hbs⟩ := decode_ok h
  rwa [encode_decodeFetched]

end Sys2Proof
end


section
/-! The illegal opcodes (30_encoding.md R340, 45_system.md R905), what the fetch reads and where it leaves PC (R300-R303,
60_exceptions.md R1031), and that a running CPU's step runs the instruction its bytes decode to. -/

namespace Sys2Proof.Machine

/-! ## The illegal opcodes -/

/-- The eleven bytes of R340. -/
def illegalBytes : List Byte :=
  [0xD3#8, 0xDB#8, 0xDD#8, 0xE3#8, 0xE4#8, 0xEB#8, 0xEC#8, 0xED#8, 0xF4#8, 0xFC#8, 0xFD#8]

/-- An illegal opcode is one byte, one of the eleven, and the byte of the DecodeError it takes (R340, R905). -/
theorem illegal_byte (x : Illegal) : ∃ op ∈ illegalBytes,
    encode (.illegal x) = [op] ∧ ∀ s, exec (.illegal x) s = illegalOp op s := by
  cases x <;> exact ⟨_, by decide, rfl, fun _ => rfl⟩

/-- The first byte of a fetched instruction is the opcode it was fetched as. -/
theorem head?_encode_decodeFetched (op b1 b2 : Byte) : (encode (decodeFetched op b1 b2)).head? = some op := by
  rw [encode_decodeFetched]
  rcases instrLength_cases op with h | h | h <;> rw [h] <;> rfl

/-- Exactly the eleven bytes are illegal opcodes, whatever follows (R340). -/
theorem decodeFetched_illegal_iff (op b1 b2 : Byte) : (∃ x, decodeFetched op b1 b2 = .illegal x) ↔ op ∈ illegalBytes := by
  constructor
  · rintro ⟨x, hx⟩
    obtain ⟨op', hmem, henc, -⟩ := illegal_byte x
    have hhead := head?_encode_decodeFetched op b1 b2
    rw [hx, henc] at hhead
    cases hhead
    exact hmem
  · simp only [illegalBytes, List.mem_cons, List.not_mem_nil, or_false]
    rintro (rfl | rfl | rfl | rfl | rfl | rfl | rfl | rfl | rfl | rfl | rfl)
    exacts [⟨.xD3, rfl⟩, ⟨.xDB, rfl⟩, ⟨.xDD, rfl⟩, ⟨.xE3, rfl⟩, ⟨.xE4, rfl⟩, ⟨.xEB, rfl⟩, ⟨.xEC, rfl⟩, ⟨.xED, rfl⟩,
      ⟨.xF4, rfl⟩, ⟨.xFC, rfl⟩, ⟨.xFD, rfl⟩]

/-- Settles O27: an illegal opcode's one byte is the opcode its DecodeError records. -/
theorem illegalOpcodes : Obligations.IllegalOpcodes := by
  refine ⟨decodeFetched_illegal_iff, fun x s => ?_⟩
  obtain ⟨op, -, henc, hexec⟩ := illegal_byte x
  refine ⟨op, henc, fun hp => ?_, fun hp => ?_⟩
  · rw [hexec, illegalOp, if_pos hp]
  · rw [hexec, illegalOp, if_neg (by simp [hp]), State.raiseDecodeError]

/-! ## The fetch -/

/-- The fetch by the length of the instruction: the bytes it reads and the state it leaves (R302, R303). -/
theorem State.fetch_cases (s : State) :
    (instrLength s.opcode = 1 ∧ s.fetchedBytes = [s.opcode] ∧ s.afterFetch = s.afterOpcode) ∨
      (instrLength s.opcode = 2 ∧ s.fetchedBytes = [s.opcode, s.byte2] ∧ s.afterFetch = s.afterOpcode.afterFetch8) ∨
      (instrLength s.opcode = 3 ∧ s.fetchedBytes = [s.opcode, s.byte2, s.byte3] ∧
        s.afterFetch = s.afterOpcode.afterFetch8.afterFetch8) := by
  rcases instrLength_cases s.opcode with h | h | h <;> simp [State.fetchedBytes, State.afterFetch, h]

theorem State.length_fetchedBytes (s : State) : s.fetchedBytes.length = instrLength s.opcode := by
  rcases s.fetch_cases with ⟨hl, hb, -⟩ | ⟨hl, hb, -⟩ | ⟨hl, hb, -⟩ <;> rw [hl, hb] <;> rfl

theorem State.head_fetchedBytes (s : State) : s.fetchedBytes[0]? = some (s.peek s.cpu.pc) := by
  rcases s.fetch_cases with ⟨-, hb, -⟩ | ⟨-, hb, -⟩ | ⟨-, hb, -⟩ <;> rw [hb] <;> rfl

theorem State.byte2_eq (s : State) (h : isAudio s.afterOpcode.cpu.pc = false) :
    s.byte2 = s.peek s.afterOpcode.cpu.pc := s.peek_afterOpcode _ h

theorem State.byte3_eq (s : State) (h : isAudio (s.afterOpcode.cpu.pc + 1) = false) :
    s.byte3 = s.peek (s.afterOpcode.cpu.pc + 1) := by
  rw [State.byte3, State.afterFetch8_cpu]
  exact (State.peek_afterFetch8 _ _ h).trans (s.peek_afterOpcode _ h)

/-- The bytes after the opcode stand at rising addresses from where the opcode fetch leaves PC (R300-R302). -/
theorem State.fetchedBytes_succ (s : State) (k : Nat) (hk : k + 1 < instrLength s.opcode)
    (ha : isAudio (s.afterOpcode.cpu.pc + BitVec.ofNat 16 k) = false) :
    s.fetchedBytes[k + 1]? = some (s.peek (s.afterOpcode.cpu.pc + BitVec.ofNat 16 k)) := by
  rcases s.fetch_cases with ⟨hl, -, -⟩ | ⟨hl, hb, -⟩ | ⟨hl, hb, -⟩
  · omega
  · obtain rfl : k = 0 := by omega
    rw [BitVec.add_zero] at ha ⊢
    rw [hb, ← s.byte2_eq ha]
    rfl
  · obtain rfl | rfl : k = 0 ∨ k = 1 := by omega
    · rw [BitVec.add_zero] at ha ⊢
      rw [hb, ← s.byte2_eq ha]
      rfl
    · rw [hb]
      exact congrArg some (s.byte3_eq ha)

theorem State.peek_afterFetch (s : State) (a : Word) (h : isAudio a = false) : s.afterFetch.peek a = s.peek a := by
  rcases s.fetch_cases with ⟨-, -, hs⟩ | ⟨-, -, hs⟩ | ⟨-, -, hs⟩ <;>
    simp only [hs, State.peek_afterFetch8 _ a h, State.peek_afterOpcode _ a h]

/-- PC goes past the bytes after the opcode. -/
theorem State.afterFetch_cpu (s : State) : s.afterFetch.cpu =
    { s.afterOpcode.cpu with pc := s.afterOpcode.cpu.pc + BitVec.ofNat 16 (instrLength s.opcode - 1) } := by
  rcases s.fetch_cases with ⟨hl, -, hs⟩ | ⟨hl, -, hs⟩ | ⟨hl, -, hs⟩ <;>
    simp [hl, hs, State.afterFetch8_cpu, BitVec.add_assoc, -State.afterOpcode_run]

/-- Settles O29: the opcode fetch leaves PC at the next byte, or at the same one with the latch set, and each later byte is read
where it left PC. -/
theorem fetchReadsAndAdvances : Obligations.FetchReadsAndAdvances := by
  intro s
  have hpc : s.afterOpcode.cpu.pc = if s.cpu.haltBug = true then s.cpu.pc else s.cpu.pc + 1 := by rw [s.afterOpcode_cpu]
  refine ⟨?_, s.peek_afterFetch, s.length_fetchedBytes, s.head_fetchedBytes, ?_⟩
  · rw [s.afterFetch_cpu, s.afterOpcode_cpu]
  · rw [← hpc]
    exact s.fetchedBytes_succ

/-! ## The step of a running CPU -/

/-- Settles O28: the fetched bytes decode to the fetched instruction, which the step runs. -/
theorem stepRunsTheDecodedInstruction : Obligations.StepRunsTheDecodedInstruction := by
  intro s i rest hrun hint hdec _
  rw [s.decode_fetchedBytes] at hdec
  cases hdec
  refine ⟨rfl, ?_⟩
  rw [step, State.stepOnce, hrun]
  exact if_neg hint

end Sys2Proof.Machine
end

section
/-! The loads, stores and stack transfers of 40_load.md: which bytes each form is (R400-R425) and which shared operation gives it its
meaning; what the operation answers and leaves alone stands in Laws/Operands. -/

namespace Sys2Proof.Machine

/-! ## Words of the spec -/

/-- Settles O3: each word is its instruction's encoding, so it decodes to it. -/
theorem wordsOfTheSpecDecode : Obligations.WordsOfTheSpecDecode :=
  have decodes (i : Instr) : decode (encode i ++ []) = .ok (i, []) := decodeOfEncodeIsTheInstruction i []
  ⟨decodes .ldAB, decodes .ldIndHlH, decodes (.ldSpD16 0xFFFE), decodes .sbcAH, decodes .addHlHl, decodes .cbBit7H,
    decodes .cbSet3IndHl, decodes (.jrNcE8 0xFE), decodes .rst28, decodes .halt, decodes (.stop 0x5A)⟩

/-! ## The encodings by operand field (R310-R312) -/

theorem encode_ldRegReg (r r' : R8) : encode (Instr.ldRegReg r r') = [0b01#2 ++ r.code ++ r'.code] := by
  cases r <;> cases r' <;> rfl

theorem encode_ldRegD8 (r : R8) (n : Byte) : encode (Instr.ldRegD8 r n) = [0b00#2 ++ r.code ++ 0b110#3, n] := by
  cases r <;> rfl

theorem encode_ldRegHl (r : R8) : encode (Instr.ldRegHl r) = [0b01#2 ++ r.code ++ 0b110#3] := by cases r <;> rfl

theorem encode_ldHlReg (r : R8) : encode (Instr.ldHlReg r) = [0b01110#5 ++ r.code] := by cases r <;> rfl

theorem encode_ldPairD16 (r : Rp) (nn : Word) :
    encode (Instr.ldPairD16 r nn) = [0b00#2 ++ r.code ++ 0b0001#4, lo nn, hi nn] := by
  cases r <;> rfl

theorem encode_pushPair (r : Rp2) : encode (Instr.pushPair r) = [0b11#2 ++ r.code ++ 0b0101#4] := by cases r <;> rfl

theorem encode_popPair (r : Rp2) : encode (Instr.popPair r) = [0b11#2 ++ r.code ++ 0b0001#4] := by cases r <;> rfl

/-! ## The meanings by operand field -/

/-- `LD r,r'` is the register load (R401). -/
theorem exec_ldRegReg (r r' : R8) (s : State) : exec (Instr.ldRegReg r r') s = ldRegReg r r' s := by
  cases r <;> cases r' <;> rfl

/-- `LD r,d8` is the immediate load (R402). -/
theorem exec_ldRegD8 (r : R8) (n : Byte) (s : State) : exec (Instr.ldRegD8 r n) s = ldRegImm r n s := by cases r <;> rfl

/-- `LD r,(HL)` is the memory load at HL (R403). -/
theorem exec_ldRegHl (r : R8) (s : State) : exec (Instr.ldRegHl r) s = ldRegMem r s.hl 8 s := by cases r <;> rfl

/-- `LD (HL),r` is the store at HL (R404). -/
theorem exec_ldHlReg (r : R8) (s : State) : exec (Instr.ldHlReg r) s = ldMemVal s.hl (s.getR r) 8 s := by cases r <;> rfl

/-- `LD rr,d16` is the pair load (R420). -/
theorem exec_ldPairD16 (r : Rp) (nn : Word) (s : State) : exec (Instr.ldPairD16 r nn) s = ldPairImm r nn s := by
  cases r <;> rfl

/-! ## 8-bit loads and stores -/

/-- Settles O4: the register, immediate and memory loads. -/
theorem loadsOfARegister : Obligations.LoadsOfARegister := fun r s =>
  ⟨fun r' => ⟨encode_ldRegReg r r', exec_ldRegReg r r' s ▸ ldRegReg_next r r' s⟩,
    fun n => ⟨encode_ldRegD8 r n, exec_ldRegD8 r n s ▸ ldRegImm_next r n s⟩,
    encode_ldRegHl r, exec_ldRegHl r s ▸ ldRegMem_next r s.hl 8 s⟩

/-- Settles O5: both forms are the store at HL. -/
theorem storeAtHl : Obligations.StoreAtHl :=
  ⟨fun r s => ⟨encode_ldHlReg r, exec_ldHlReg r s ▸ ldMemVal_next s.hl (s.getR r) 8 s⟩,
    fun n s => ⟨rfl, ldMemVal_next s.hl n 12 s⟩⟩

/-- The high-page address of `n` has `0xFF` for its high byte (R320, R321). -/
theorem highPage_eq (n : Byte) : highPage n = 0xFF#8 ++ n :=
  calc highPage n = (0xFF#8 ++ 0#8) + (0#8 ++ n) := congrArg (0xFF00#16 + ·) (BitVec.setWidth_eq_append (by decide))
    _ = 0xFF#8 ++ n := BitVec.append_zero_add_zero_append

/-- Settles O6: every row of the two tables is the memory load at the row's address, or the load that steps HL. -/
theorem loadsOfTheAccumulator : Obligations.LoadsOfTheAccumulator := by
  constructor
  · intro s nn n i bytes addr k hrow
    suffices h : encode i = bytes ∧ exec i s = ldRegMem .a addr k s from ⟨h.1, h.2 ▸ ldRegMem_next .a addr k s⟩
    simp only [← highPage_eq, List.mem_cons, List.not_mem_nil, or_false, Prod.mk.injEq] at hrow
    obtain ⟨rfl, rfl, rfl, rfl⟩ | ⟨rfl, rfl, rfl, rfl⟩ | ⟨rfl, rfl, rfl, rfl⟩ | ⟨rfl, rfl, rfl, rfl⟩ |
      ⟨rfl, rfl, rfl, rfl⟩ := hrow <;> exact ⟨rfl, rfl⟩
  · intro s i byte by' hrow
    suffices h : encode i = [byte] ∧ exec i s = ldAHlStep by' s from ⟨h.1, h.2 ▸ ldAHlStep_next by' s⟩
    simp only [List.mem_cons, List.not_mem_nil, or_false, Prod.mk.injEq] at hrow
    obtain ⟨rfl, rfl, rfl⟩ | ⟨rfl, rfl, rfl⟩ := hrow <;> exact ⟨rfl, rfl⟩

/-- Settles O7: every row of the two tables is the store of A at the row's address, or the store that steps HL. -/
theorem storesOfTheAccumulator : Obligations.StoresOfTheAccumulator := by
  constructor
  · intro s nn n i bytes addr k hrow
    suffices h : encode i = bytes ∧ exec i s = ldMemVal addr s.cpu.a k s from
      ⟨h.1, h.2 ▸ ldMemVal_next addr s.cpu.a k s⟩
    simp only [← highPage_eq, List.mem_cons, List.not_mem_nil, or_false, Prod.mk.injEq] at hrow
    obtain ⟨rfl, rfl, rfl, rfl⟩ | ⟨rfl, rfl, rfl, rfl⟩ | ⟨rfl, rfl, rfl, rfl⟩ | ⟨rfl, rfl, rfl, rfl⟩ |
      ⟨rfl, rfl, rfl, rfl⟩ := hrow <;> exact ⟨rfl, rfl⟩
  · intro s i byte by' hrow
    suffices h : encode i = [byte] ∧ exec i s = ldHlStepA by' s from ⟨h.1, h.2 ▸ ldHlStepA_next by' s⟩
    simp only [List.mem_cons, List.not_mem_nil, or_false, Prod.mk.injEq] at hrow
    obtain ⟨rfl, rfl, rfl⟩ | ⟨rfl, rfl, rfl⟩ := hrow <;> exact ⟨rfl, rfl⟩

/-! ## 16-bit loads -/

/-- The pair load puts the immediate in the pair, in 12 T-cycles, and leaves the rest alone (R420). -/
theorem ldPairImm_next (r : Rp) (nn : Word) (s : State) : ∃ t, ldPairImm r nn s = .next t ∧ t.getRp r = nn ∧
    t.cycles = s.cycles + 12 ∧ s.keepsCpu (rpFootprint r) t ∧ s.keepsDevices t ∧ s.keepsMemory t := by
  refine ⟨_, rfl, ?_, ?_, ?_, s.setRp_keeps r nn 12⟩
  · rw [State.getRp_tick, State.getRp_setRp]
  · rw [State.tick_cycles, State.setRp_cycles]
  · have h := s.setRp_keepsCpu r nn 12
    cases r <;> exact h

/-- Settles O8: `LD rr,d16` and `LD SP,HL` are pair writes, `LD (a16),SP` is two neighbouring stores. -/
theorem sixteenBitLoads : Obligations.SixteenBitLoads :=
  ⟨fun nn s r => ⟨encode_ldPairD16 r nn, exec_ldPairD16 r nn s ▸ ldPairImm_next r nn s⟩,
    fun s => ⟨rfl, _, rfl, rfl, rfl, s.setRp_keepsCpu .sp s.hl 8, s.setRp_keeps .sp s.hl 8⟩,
    fun nn s => ⟨rfl, ldMemSp_next nn s⟩⟩

/-! ## The stack -/

/-- Bits 3-0 of AF are zero (10_state.md R106, R110). -/
theorem State.af_low_nibble (s : State) : s.af.extractLsb' 0 4 = 0#4 :=
  calc s.af.extractLsb' 0 4 = s.cpu.f.toByte.extractLsb' 0 4 := BitVec.extractLsb'_append_eq_of_add_le (by decide)
    _ = 0#4 := BitVec.extractLsb'_append_eq_right

/-- Settles O9: a push, and the low nibble of F. -/
theorem pushStoresThePair : Obligations.PushStoresThePair := by
  intro r s
  obtain ⟨t, hexec, ht, hcpu, hmem⟩ := pushPair_next r s
  refine ⟨encode_pushPair r, t, (exec_pushPair r s).trans hexec, ht, ?_, hcpu, hmem⟩
  rintro rfl
  exact s.af_low_nibble

/-- The parts of the CPU that a pop writes (R424, R425). -/
def popFootprint : Rp2 → Footprint
  | .bc => { regs := [.b, .c], sp := true }
  | .de => { regs := [.d, .e], sp := true }
  | .hl => { regs := [.h, .l], sp := true }
  | .af => { regs := [.a], flags := true, sp := true }

/-- A pair write leaves every register outside the pair as it was. -/
theorem State.getR_setRp2_other (s : State) (r : Rp2) (w : Word) (q : R8) (hq : q ∉ (popFootprint r).regs) :
    (s.setRp2 r w).getR q = s.getR q := by
  cases r <;> cases q <;> simp [popFootprint, State.getR, State.setRp2] at hq ⊢

/-- Only a write of AF reaches the flags. -/
theorem State.setRp2_f_other (s : State) (r : Rp2) (w : Word) (h : (popFootprint r).flags = false) :
    (s.setRp2 r w).cpu.f = s.cpu.f := by
  cases r with
  | bc | de | hl => rfl
  | af => cases h

/-- A pop changes SP and the registers of its pair, and no other part of the CPU. -/
theorem State.afterPop_setRp2_keepsCpu (s : State) (r : Rp2) (w : Word) (k : Nat) :
    s.keepsCpu (popFootprint r) ((s.afterPop.setRp2 r w).tick k) := by
  have hregs : ∀ q, q ∉ (popFootprint r).regs → ((s.afterPop.setRp2 r w).tick k).getR q = s.getR q := fun q hq => by
    rw [State.getR_tick, State.getR_setRp2_other _ r w q hq]
    simp [State.getR]
  have hflags : (popFootprint r).flags = false → ((s.afterPop.setRp2 r w).tick k).cpu.f = s.cpu.f := fun h => by
    rw [State.tick_cpu, State.setRp2_f_other _ r w h, State.afterPop_cpu]
  have hsp : (popFootprint r).sp = true := by cases r <;> rfl
  exact ⟨hregs, hflags, by simp [hsp], by simp, by simp, by simp, by simp, by simp, by simp, by simp⟩

/-- A pop keeps every device and every byte. -/
theorem State.afterPop_setRp2_keeps (s : State) (r : Rp2) (w : Word) (k : Nat) :
    s.keepsDevices ((s.afterPop.setRp2 r w).tick k) ∧ s.keepsMemory ((s.afterPop.setRp2 r w).tick k) := by
  obtain ⟨d, hd⟩ := s.afterPop_eq
  rw [hd]
  cases r <;> exact State.keeps_of_eq _ _ _ _ _ rfl

/-- Settles O10: the pair gets the two bytes of the popped word, F its bits 7-4. -/
theorem popLoadsThePair : Obligations.PopLoadsThePair := by
  intro r s
  obtain ⟨hdev, hmem⟩ := s.afterPop_setRp2_keeps r s.popValue 12
  have hcpu := s.afterPop_setRp2_keepsCpu r s.popValue 12
  refine ⟨encode_popPair r, _, exec_popPair r s, by simp, by simp, hdev, hmem, ?_⟩
  cases r with
  | bc | de | hl => exact ⟨s.hi_popValue, s.lo_popValue, hcpu⟩
  | af => exact ⟨s.hi_popValue, congrArg Flags.ofByte s.lo_popValue, hcpu⟩

end Sys2Proof.Machine
end

section
/-! The 8-bit arithmetic of 41_alu8.md: which bytes each form is (R500, R510-R525), which shared operation gives it its meaning, and
what the result computations say as numbers; what an operation leaves alone stands in Laws/Operands. -/

namespace Sys2Proof.Machine

/-! ## The ALU forms (R314, R500) -/

theorem encode_aluForm (op : Alu) (o : Src) : encode (aluForm op o) = aluBytes op o := by
  cases o with
  | reg r => cases op <;> cases r <;> rfl
  | hl | imm n => cases op <;> rfl

/-- Every ALU form is the one ALU operation on its source. -/
theorem exec_aluForm (op : Alu) (o : Src) (s : State) : exec (aluForm op o) s = aluOp op o s := by
  cases o with
  | reg r => cases op <;> cases r <;> rfl
  | hl | imm n => cases op <;> rfl

/-! ## The ALU results -/

/-- A carry-in as a number. -/
theorem toNat_decide (p : Prop) [Decidable p] : (decide p).toNat = if p then 1 else 0 := Bool.cond_decide p 1 0

/-- ADD and ADC are one sum, ADC's with the carry flag added in (R510, R511). -/
theorem aluCompute_add_adc (op : Alu) (a v : Byte) (f : Flags) (hop : op = .add ∨ op = .adc) :
    aluCompute op a v f = add8 a v (decide (op = .adc ∧ f.c = true)) := by
  rcases hop with rfl | rfl <;> simp [aluCompute]

/-- SUB, SBC and CP are one difference, SBC's with the carry flag taken away too (R512, R513, R517). -/
theorem aluCompute_sub_sbc_cp (op : Alu) (a v : Byte) (f : Flags) (hop : op = .sub ∨ op = .sbc ∨ op = .cp) :
    aluCompute op a v f = sub8 a v (decide (op = .sbc ∧ f.c = true)) := by
  rcases hop with rfl | rfl | rfl <;> simp [aluCompute]

/-- The bits of the logic results (R514-R516). -/
theorem aluCompute_logic_bit (op : Alu) (a v : Byte) (f : Flags) (hop : op = .and ∨ op = .xor ∨ op = .or) (k : Nat) :
    (aluCompute op a v f).value.getLsbD k =
      if op = .and then (a.getLsbD k && v.getLsbD k)
      else if op = .xor then (a.getLsbD k != v.getLsbD k) else (a.getLsbD k || v.getLsbD k) := by
  rcases hop with rfl | rfl | rfl
  · exact BitVec.getLsbD_and
  · exact BitVec.getLsbD_xor
  · exact BitVec.getLsbD_or

/-- The flags of the logic results: H is set by AND alone (R514-R516). -/
theorem aluCompute_logic_flags (op : Alu) (a v : Byte) (f : Flags) (hop : op = .and ∨ op = .xor ∨ op = .or) :
    (aluCompute op a v f).flags =
      { z := decide ((aluCompute op a v f).value.toNat = 0), n := false, h := decide (op = .and), c := false } := by
  simp only [← byte_eq_zero_iff]
  rcases hop with rfl | rfl | rfl <;> rfl

/-- Settles O12: the sum with the carry-in as a number. -/
theorem addAndAddWithCarry : Obligations.AddAndAddWithCarry := by
  intro op o s hop
  obtain ⟨t, hexec, ha, hf, hrest⟩ := aluOp_next op o s
  have hcp : op ≠ .cp := by rcases hop with rfl | rfl <;> decide
  rw [if_neg hcp, aluCompute_add_adc _ _ _ _ hop] at ha
  rw [aluCompute_add_adc _ _ _ _ hop, add8_flags, toNat_decide] at hf
  refine ⟨encode_aluForm op o, t, (exec_aluForm op o s).trans hexec, ⟨?_, hf⟩, hrest⟩
  rw [ha, add8_value, toNat_decide]

/-- Settles O13: the difference with the borrow-in as a number; CP discards it. -/
theorem subtractAndCompare : Obligations.SubtractAndCompare := by
  intro op o s hop
  obtain ⟨t, hexec, ha, hf, hrest⟩ := aluOp_next op o s
  rw [aluCompute_sub_sbc_cp _ _ _ _ hop] at ha
  rw [aluCompute_sub_sbc_cp _ _ _ _ hop, sub8_flags, toNat_decide, Nat.cast_ite] at hf
  refine ⟨encode_aluForm op o, t, (exec_aluForm op o s).trans hexec, ⟨?_, hf⟩, hrest⟩
  rw [ha, apply_ite BitVec.toNat, Nat.cast_ite, sub8_value, toNat_decide, Nat.cast_ite]
  rfl

/-- Settles O14: the bits of the result and their flags. -/
theorem andXorOr : Obligations.AndXorOr := by
  intro op o s hop
  obtain ⟨t, hexec, ha, hf, hrest⟩ := aluOp_next op o s
  have hcp : op ≠ .cp := by rcases hop with rfl | rfl | rfl <;> decide
  rw [if_neg hcp] at ha
  rw [aluCompute_logic_flags _ _ _ _ hop, ← ha] at hf
  refine ⟨encode_aluForm op o, t, (exec_aluForm op o s).trans hexec, ⟨fun k _ => ?_, hf⟩, hrest⟩
  rw [ha, aluCompute_logic_bit _ _ _ _ hop]

/-! ## INC and DEC (R518-R521) -/

theorem encode_incReg (r : R8) : encode (Instr.incReg r) = [0b00#2 ++ r.code ++ 0b100#3] := by cases r <;> rfl

theorem encode_decReg (r : R8) : encode (Instr.decReg r) = [0b00#2 ++ r.code ++ 0b101#3] := by cases r <;> rfl

theorem exec_incReg (r : R8) (s : State) : exec (Instr.incReg r) s = modifyReg inc8 r 4 s := by cases r <;> rfl

theorem exec_decReg (r : R8) (s : State) : exec (Instr.decReg r) s = modifyReg dec8 r 4 s := by cases r <;> rfl

theorem inc8_value_toNat (v : Byte) (f : Flags) : (inc8 v f).value.toNat = (v.toNat + 1) % 256 := by
  rw [inc8_value, BitVec.toNat_ofNat]

theorem dec8_value_toNat (v : Byte) (f : Flags) : (dec8 v f).value.toNat = (v.toNat + 255) % 256 := by
  rw [dec8_value, BitVec.toNat_ofNat]

/-- Settles O15: a register and the byte at HL take the same result and the same flags. -/
theorem incrementAndDecrement : Obligations.IncrementAndDecrement := by
  intro s
  refine ⟨fun r => ⟨encode_incReg r, ?_⟩, fun r => ⟨encode_decReg r, ?_⟩, ⟨rfl, ?_⟩, ⟨rfl, ?_⟩⟩
  · obtain ⟨t, hexec, hv, hf, hrest⟩ := modifyReg_next inc8 r 4 s
    rw [inc8_flags] at hf
    exact ⟨t, (exec_incReg r s).trans hexec, (congrArg BitVec.toNat hv).trans (inc8_value_toNat _ _), hf, hrest⟩
  · obtain ⟨t, hexec, hv, hf, hrest⟩ := modifyReg_next dec8 r 4 s
    rw [dec8_flags] at hf
    exact ⟨t, (exec_decReg r s).trans hexec, (congrArg BitVec.toNat hv).trans (dec8_value_toNat _ _), hf, hrest⟩
  · rw [← inc8_value _ s.cpu.f, ← inc8_flags]
    exact modifyHl_next inc8 12 s
  · rw [← dec8_value _ s.cpu.f, ← dec8_flags]
    exact modifyHl_next dec8 12 s

/-! ## DAA, CPL, SCF and CCF (R522-R525) -/

theorem daaHigh_eq (a : Byte) (f : Flags) :
    daaHigh a f = decide (f.c = true ∨ f.n = false ∧ a.toNat > 0x99) := by
  rw [daaHigh]
  cases f.n <;> simp

theorem daaLow_eq (a : Byte) (f : Flags) :
    daaLow a f = decide (f.h = true ∨ f.n = false ∧ a.toNat % 16 > 9) := by
  rw [daaLow, low_nibble]
  cases f.n <;> simp

/-- DAA's two adjustments share no bit, so putting them together is adding them. -/
theorem daa_adjust_toNat (high low : Bool) :
    ((if high = true then 0x60 else 0x00 : Byte) ||| (if low = true then 0x06 else 0x00)).toNat =
      (if high = true then 0x60 else 0) + (if low = true then 0x06 else 0) := by
  cases high <;> cases low <;> rfl

/-- DAA's result as a number: the adjustment added, or taken away modulo 256 after a subtraction. -/
theorem daa_value (a : Byte) (f : Flags) : (daa a f).value.toNat =
    (let adj := (if daaHigh a f = true then 0x60 else 0) + (if daaLow a f = true then 0x06 else 0)
     if f.n = true then a.toNat + 256 - adj else a.toNat + adj) % 256 := by
  rw [← daa_adjust_toNat]
  cases hn : f.n
  · simp [daa, hn]
  · simp only [daa, hn, if_true, BitVec.toNat_sub]
    omega

theorem daa_flags (a : Byte) (f : Flags) : (daa a f).flags =
    { z := decide ((daa a f).value.toNat = 0), n := f.n, h := false, c := daaHigh a f } := by
  simp only [← byte_eq_zero_iff]
  rfl

theorem cpl_value (a : Byte) (f : Flags) : (cpl a f).value.toNat = 255 - a.toNat := by
  rw [cpl, BitVec.toNat_not]

/-- Settles O16: DAA and CPL change A and the flags, SCF and CCF the flags alone. -/
theorem accumulatorAndFlagOperations : Obligations.AccumulatorAndFlagOperations := by
  intro s
  refine ⟨⟨rfl, ?_⟩, ⟨rfl, ?_⟩, ⟨rfl, flagsOp_next scf s⟩, ⟨rfl, flagsOp_next ccf s⟩⟩
  · obtain ⟨t, hexec, hv, hf, hrest⟩ := modifyReg_next daa .a 4 s
    have ha : t.cpu.a = (daa s.cpu.a s.cpu.f).value := hv
    refine ⟨t, hexec, ⟨?_, ?_⟩, hrest⟩
    · rw [ha, daa_value]
      simp only [daaHigh_eq, daaLow_eq, decide_eq_true_eq]
    · rw [ha, ← daaHigh_eq, ← daa_flags]
      exact hf
  · obtain ⟨t, hexec, hv, hf, hrest⟩ := modifyReg_next cpl .a 4 s
    exact ⟨t, hexec, (congrArg BitVec.toNat hv).trans (cpl_value _ _), hf, hrest⟩

end Sys2Proof.Machine
end

section
/-! The 16-bit arithmetic of 42_alu16.md: which bytes each form is (R601-R603), which shared operation gives it its meaning, and what
the sums say as numbers; the frame of a pair write stands in Laws/Operands. -/

namespace Sys2Proof.Machine

/-! ## The pair forms (R311, R601-R603) -/

theorem encode_addHlPair (r : Rp) : encode (Instr.addHlPair r) = [0b00#2 ++ r.code ++ 0b1001#4] := by cases r <;> rfl

theorem encode_incPair (r : Rp) : encode (Instr.incPair r) = [0b00#2 ++ r.code ++ 0b0011#4] := by cases r <;> rfl

theorem encode_decPair (r : Rp) : encode (Instr.decPair r) = [0b00#2 ++ r.code ++ 0b1011#4] := by cases r <;> rfl

theorem exec_addHlPair (r : Rp) (s : State) : exec (Instr.addHlPair r) s = addHlPair r s := by cases r <;> rfl

theorem exec_incPair (r : Rp) (s : State) : exec (Instr.incPair r) s = stepPair r 1 s := by cases r <;> rfl

theorem exec_decPair (r : Rp) (s : State) : exec (Instr.decPair r) s = stepPair r (-1) s := by cases r <;> rfl

/-- The pair's own footprint bounds a pair write. -/
theorem State.setRp_keepsCpu_rpFootprint (s : State) (r : Rp) (w : Word) (k : Nat) :
    s.keepsCpu (rpFootprint r) ((s.setRp r w).tick k) := by
  have h := s.setRp_keepsCpu r w k
  cases r <;> exact h

/-- A pair stepped by `w` holds the sum modulo 65536, in 8 T-cycles, and nothing outside the pair changes (R602, R603). -/
theorem stepPair_toNat (r : Rp) (w : Word) (s : State) : ∃ t, stepPair r w s = .next t ∧
    (t.getRp r).toNat = ((s.getRp r).toNat + w.toNat) % 65536 ∧ t.cycles = s.cycles + 8 ∧
    s.keepsCpu (rpFootprint r) t ∧ s.keepsDevices t ∧ s.keepsMemory t := by
  obtain ⟨t, hexec, hv, hcycles, hdev, hmem, rfl⟩ := stepPair_next r w s
  exact ⟨_, hexec, by rw [hv, BitVec.toNat_add], hcycles, s.setRp_keepsCpu_rpFootprint r _ 8, hdev, hmem⟩

/-- Settles O17: one 16-bit sum, and a pair stepped by 1 or by -1, which is 65535 modulo 65536. -/
theorem pairArithmetic : Obligations.PairArithmetic := by
  intro r s
  refine ⟨⟨encode_addHlPair r, ?_⟩, ⟨encode_incPair r, ?_⟩, ⟨encode_decPair r, ?_⟩⟩
  · obtain ⟨t, hexec, hv, hf, hrest⟩ := addHlPair_next r s
    exact ⟨t, (exec_addHlPair r s).trans hexec, ⟨(congrArg BitVec.toNat hv).trans (add16_value _ _ _), hf⟩, hrest⟩
  · rw [exec_incPair]
    exact stepPair_toNat r 1 s
  · rw [exec_decPair]
    exact stepPair_toNat r (-1) s

/-! ## SP plus a displacement (R604-R606) -/

/-- The result is SP plus the signed displacement, modulo 65536 (R604). -/
theorem spAdd_value (sp : Word) (e : Byte) : ((spAdd sp e).value.toNat : Int) = ((sp.toNat : Int) + e.toInt) % 65536 :=
  add_sext16 sp e

/-- Writing the flags adds them, and no other part of the CPU, to what may have changed. -/
theorem State.keepsCpu.setFlags {s t : State} {w : Footprint} (h : s.keepsCpu w t) (f : Flags) :
    s.keepsCpu { w with flags := true } (t.setFlags f) := by
  obtain ⟨hregs, -, hrest⟩ := h
  exact ⟨hregs, nofun, hrest⟩

/-- A write of a pair and the flags keeps the rest of the CPU, every device and every byte. -/
theorem State.setRp_setFlags_keeps (s : State) (r : Rp) (w : Word) (f : Flags) (k : Nat) :
    s.keepsCpu { rpFootprint r with flags := true } (((s.setRp r w).setFlags f).tick k) ∧
      s.keepsDevices (((s.setRp r w).setFlags f).tick k) ∧ s.keepsMemory (((s.setRp r w).setFlags f).tick k) := by
  refine ⟨(s.setRp_keepsCpu_rpFootprint r w k).setFlags f, ?_⟩
  cases r <;> exact State.keeps_of_eq _ _ _ _ _ rfl

/-- Settles O18: both forms take the value and the flags of one sum, ADD SP,e8 in SP and LD HL,SP+e8 in HL. -/
theorem stackPointerPlusDisplacement : Obligations.StackPointerPlusDisplacement := by
  intro e s
  refine ⟨⟨rfl, _, rfl, spAdd_value s.cpu.sp e, rfl, rfl, s.setRp_setFlags_keeps .sp _ _ 16⟩,
    ⟨rfl, _, rfl, ?_, rfl, rfl, s.setRp_setFlags_keeps .hl _ _ 12⟩⟩
  rw [State.hl_tick, State.hl_setFlags, State.hl_setHl]
  exact spAdd_value s.cpu.sp e

end Sys2Proof.Machine
end

section
/-! The rotates, shifts and bit operations of 43_rotate_shift_bit.md: which bytes each form is (R315, R316, R700-R721), which shared
operation gives it its meaning, and what the results say as numbers; what an operation leaves alone stands in Laws/Operands. -/

namespace Sys2Proof.Machine

/-! ## The forms by operand field (R315, R316) -/

theorem encode_rotReg (op : Rot) (r : R8) : encode (Instr.rotReg op r) = [0xCB, 0b00#2 ++ op.code ++ r.code] := by
  cases op <;> cases r <;> rfl

theorem encode_rotHl (op : Rot) : encode (Instr.rotHl op) = [0xCB, 0b00#2 ++ op.code ++ 0b110#3] := by cases op <;> rfl

theorem encode_bitReg (b : Oct) (r : R8) : encode (Instr.bitReg b r) = [0xCB, 0b01#2 ++ b.code ++ r.code] := by
  cases b <;> cases r <;> rfl

theorem encode_bitHl (b : Oct) : encode (Instr.bitHl b) = [0xCB, 0b01#2 ++ b.code ++ 0b110#3] := by cases b <;> rfl

theorem encode_resReg (b : Oct) (r : R8) : encode (Instr.resReg b r) = [0xCB, 0b10#2 ++ b.code ++ r.code] := by
  cases b <;> cases r <;> rfl

theorem encode_resHl (b : Oct) : encode (Instr.resHl b) = [0xCB, 0b10#2 ++ b.code ++ 0b110#3] := by cases b <;> rfl

theorem encode_setReg (b : Oct) (r : R8) : encode (Instr.setReg b r) = [0xCB, 0b11#2 ++ b.code ++ r.code] := by
  cases b <;> cases r <;> rfl

theorem encode_setHl (b : Oct) : encode (Instr.setHl b) = [0xCB, 0b11#2 ++ b.code ++ 0b110#3] := by cases b <;> rfl

/-! ## The meanings by operand field -/

theorem exec_rotReg (op : Rot) (r : R8) (s : State) : exec (Instr.rotReg op r) s = modifyReg (rotCompute op) r 8 s := by
  cases op <;> cases r <;> rfl

theorem exec_rotHl (op : Rot) (s : State) : exec (Instr.rotHl op) s = modifyHl (rotCompute op) 16 s := by cases op <;> rfl

theorem exec_bitReg (b : Oct) (r : R8) (s : State) : exec (Instr.bitReg b r) s = bitOp b (.reg r) 8 s := by
  cases b <;> cases r <;> rfl

theorem exec_bitHl (b : Oct) (s : State) : exec (Instr.bitHl b) s = bitOp b .hl 12 s := by cases b <;> rfl

theorem exec_resReg (b : Oct) (r : R8) (s : State) :
    exec (Instr.resReg b r) s = modifyReg (keepFlags (bitReset b)) r 8 s := by
  cases b <;> cases r <;> rfl

theorem exec_resHl (b : Oct) (s : State) : exec (Instr.resHl b) s = modifyHl (keepFlags (bitReset b)) 16 s := by
  cases b <;> rfl

theorem exec_setReg (b : Oct) (r : R8) (s : State) :
    exec (Instr.setReg b r) s = modifyReg (keepFlags (bitSet b)) r 8 s := by
  cases b <;> cases r <;> rfl

theorem exec_setHl (b : Oct) (s : State) : exec (Instr.setHl b) s = modifyHl (keepFlags (bitSet b)) 16 s := by
  cases b <;> rfl

/-! ## Rotates and shifts (R700-R718) -/

/-- Two fields put together, as a number. -/
theorem append_toNat {m n : Nat} (x : BitVec m) (y : BitVec n) : (x ++ y).toNat = x.toNat * 2 ^ n + y.toNat := by
  rw [BitVec.toNat_append, ← Nat.shiftLeft_add_eq_or_of_lt y.isLt, Nat.shiftLeft_eq]

/-- The field above the lowest `n` bits, as a number. -/
theorem extractHigh_toNat {w n : Nat} (x : BitVec w) (m : Nat) (h : w = n + m) :
    (x.extractLsb' n m).toNat = x.toNat / 2 ^ n := by
  have hlt : x.toNat / 2 ^ n < 2 ^ m := Nat.div_lt_of_lt_mul (by rw [← Nat.pow_add, ← h]; exact x.isLt)
  rw [BitVec.extractLsb'_toNat, Nat.shiftRight_eq_div_pow, Nat.mod_eq_of_lt hlt]

/-- A bit moved in below the low seven: the byte doubled modulo 256, and the bit (R711, R713, R715). -/
theorem shiftLeftIn_toNat (v : Byte) (b : BitVec 1) :
    (v.extractLsb' 0 7 ++ b : Byte).toNat = v.toNat * 2 % 256 + b.toNat := by
  rw [append_toNat, extractLow_toNat, ← Nat.mul_mod_mul_right]
  rfl

/-- A bit moved in above the high seven: the byte halved, and the bit at weight 128 (R712, R714, R716, R718). -/
theorem shiftRightIn_toNat (b : BitVec 1) (v : Byte) :
    (b ++ v.extractLsb' 1 7 : Byte).toNat = v.toNat / 2 + b.toNat * 128 := by
  rw [append_toNat, extractHigh_toNat v 7 rfl, Nat.add_comm]
  rfl

theorem rotResult_toNat (op : Rot) (v : Byte) (c : Bool) : (rotResult op v c).toNat = rotValue op v.toNat c.toNat := by
  have htop : (v.extractLsb' 7 1).toNat = v.toNat / 128 := extractHigh_toNat v 1 rfl
  cases op with
  | rlc => rw [rotResult, shiftLeftIn_toNat, htop, rotValue]
  | rrc => rw [rotResult, shiftRightIn_toNat, extractLow_toNat, rotValue]; rfl
  | rl => rw [rotResult, shiftLeftIn_toNat, BitVec.toNat_ofBool, rotValue]
  | rr => rw [rotResult, shiftRightIn_toNat, BitVec.toNat_ofBool, rotValue]
  | sla => exact shiftLeftIn_toNat v 0#1
  | sra => rw [rotResult, shiftRightIn_toNat, htop, rotValue]
  | swap => rw [rotResult, append_toNat, extractLow_toNat, extractHigh_toNat v 4 rfl, rotValue]; rfl
  | srl => rw [rotResult, shiftRightIn_toNat, rotValue]; rfl

theorem rotCarry_eq (op : Rot) (v : Byte) : rotCarry op v = rotOut op v.toNat := by
  have htop : v.getLsbD 7 = decide (128 ≤ v.toNat) := v.msb_eq_getLsbD_last.symm.trans v.msb_eq_decide
  have hlow : v.getLsbD 0 = decide (v.toNat % 2 = 1) := v.toNat.testBit_zero
  cases op with
  | rlc | rl | sla => exact htop
  | rrc | rr | sra | srl => exact hlow
  | swap => rfl

theorem rotCompute_flags (op : Rot) (v : Byte) (f : Flags) : (rotCompute op v f).flags =
    { z := decide (rotValue op v.toNat f.c.toNat = 0), n := false, h := false, c := rotOut op v.toNat } := by
  simp only [rotCompute, byte_eq_zero_iff, rotResult_toNat, rotCarry_eq]

theorem rotCompute_value (op : Rot) (v : Byte) (f : Flags) :
    (rotCompute op v f).value = BitVec.ofNat 8 (rotValue op v.toNat f.c.toNat) := by
  rw [← rotResult_toNat, BitVec.ofNat_toNat, BitVec.setWidth_eq]
  rfl

/-- Settles O20: a register and the byte at HL take the same result and the same flags. -/
theorem rotatesAndShifts : Obligations.RotatesAndShifts := by
  intro op s
  refine ⟨fun r => ⟨encode_rotReg op r, ?_⟩, encode_rotHl op, ?_⟩
  · obtain ⟨t, hexec, hv, hf, hrest⟩ := modifyReg_next (rotCompute op) r 8 s
    rw [rotCompute_flags] at hf
    exact ⟨t, (exec_rotReg op r s).trans hexec, (congrArg BitVec.toNat hv).trans (rotResult_toNat _ _ _), hf, hrest⟩
  · dsimp only
    rw [exec_rotHl, ← rotCompute_value, ← rotCompute_flags]
    exact modifyHl_next (rotCompute op) 16 s

/-- Settles O19: each row of the table is the rotate of A by the row's operation, Z cleared. -/
theorem rotateAccumulator : Obligations.RotateAccumulator := by
  intro s i byte op hrow
  suffices h : encode i = [byte] ∧ exec i s = modifyReg (rotComputeAcc op) .a 4 s by
    obtain ⟨henc, hexec⟩ := h
    obtain ⟨t, hnext, hv, hf, hrest⟩ := modifyReg_next (rotComputeAcc op) .a 4 s
    refine ⟨henc, t, hexec.trans hnext, (congrArg BitVec.toNat hv).trans (rotResult_toNat _ _ _), ?_, hrest⟩
    rw [hf, rotComputeAcc, rotCarry_eq]
    rfl
  simp only [List.mem_cons, List.not_mem_nil, or_false, Prod.mk.injEq] at hrow
  obtain ⟨rfl, rfl, rfl⟩ | ⟨rfl, rfl, rfl⟩ | ⟨rfl, rfl, rfl⟩ | ⟨rfl, rfl, rfl⟩ := hrow <;> exact ⟨rfl, rfl⟩

/-! ## BIT, RES and SET (R719-R721) -/

/-- Clearing the bits of a mask takes away those that were set. -/
theorem and_not_eq_sub {w : Nat} (x y : BitVec w) : x &&& ~~~y = x - (x &&& y) := by
  have hdisjoint : x &&& ~~~y &&& (x &&& y) = 0#w := by
    ext i hi
    cases hy : y[i] <;> simp [hy]
  have hcover : x &&& ~~~y ||| x &&& y = x := by
    rw [← BitVec.and_or_distrib_left, BitVec.or_comm, BitVec.or_not_self, BitVec.and_allOnes]
  rw [eq_sub_iff_add_eq, BitVec.add_eq_or_of_and_eq_zero _ _ hdisjoint, hcover]

/-- Setting the bits of a mask adds those that were clear. -/
theorem or_eq_add_sub {w : Nat} (x y : BitVec w) : x ||| y = x + (y - (x &&& y)) := by
  have hdisjoint : x &&& (y &&& ~~~x) = 0#w := by
    ext i hi
    cases hx : x[i] <;> simp [hx]
  rw [BitVec.and_comm, ← and_not_eq_sub, BitVec.add_eq_or_of_and_eq_zero _ _ hdisjoint]
  ext i hi
  cases hx : x[i] <;> simp [hx]

/-- The mask of a bit, as a number. -/
theorem bitMask_eq (b : Oct) : 1#8 <<< b.toNat = BitVec.ofNat 8 (2 ^ b.toNat) := by cases b <;> rfl

/-- What a byte holds at one bit is the bit's digit at its weight. -/
theorem and_bitMask (v : Byte) (b : Oct) :
    v &&& 1#8 <<< b.toNat = BitVec.ofNat 8 (v.toNat / 2 ^ b.toNat % 2 * 2 ^ b.toNat) := by
  rw [← BitVec.twoPow_eq, BitVec.and_twoPow, bit_eq, BitVec.twoPow_eq, bitMask_eq]
  rcases Nat.mod_two_eq_zero_or_one (v.toNat / 2 ^ b.toNat) with h | h <;> simp [h]

theorem bitReset_eq (b : Oct) (v : Byte) : bitReset b v = bitTurnedOff v b.toNat := by
  have hle : v.toNat / 2 ^ b.toNat % 2 * 2 ^ b.toNat ≤ v.toNat :=
    (Nat.mul_le_mul_right _ (Nat.mod_le _ _)).trans (Nat.div_mul_le_self _ _)
  rw [bitReset, and_not_eq_sub, and_bitMask, bitTurnedOff, ← BitVec.ofNat_sub_ofNat_of_le _ _ (hle.trans_lt v.isLt) hle,
    BitVec.ofNat_toNat, BitVec.setWidth_eq]

theorem bitSet_eq (b : Oct) (v : Byte) : bitSet b v = bitTurnedOn v b.toNat := by
  have hle : v.toNat / 2 ^ b.toNat % 2 * 2 ^ b.toNat ≤ 2 ^ b.toNat :=
    mul_le_of_le_one_left (Nat.zero_le _) (Nat.le_of_lt_succ (Nat.mod_lt _ two_pos))
  have hlt : 2 ^ b.toNat < 2 ^ 8 := by cases b <;> decide
  rw [bitSet, or_eq_add_sub, and_bitMask, bitMask_eq, BitVec.ofNat_sub_ofNat_of_le _ _ (hle.trans_lt hlt) hle, bitTurnedOn,
    BitVec.ofNat_add, BitVec.ofNat_toNat, BitVec.setWidth_eq, Nat.sub_mul, Nat.one_mul]

theorem bitTest_eq (b : Oct) (v : Byte) (f : Flags) : bitTest b v f =
    { z := decide (v.toNat / 2 ^ b.toNat % 2 = 0), n := false, h := true, c := f.c } := by
  simp only [bitTest, bit_eq, ← decide_not, Nat.mod_two_not_eq_one]

/-- A byte operation that writes no flag changes its register only. -/
theorem modifyReg_keepFlags_next (g : Byte → Byte) (r : R8) (k : Nat) (s : State) :
    ∃ t, modifyReg (keepFlags g) r k s = .next t ∧ t.getR r = g (s.getR r) ∧ t.cycles = s.cycles + k ∧
      s.keepsCpu { regs := [r] } t ∧ s.keepsDevices t ∧ s.keepsMemory t := by
  obtain ⟨t, hexec, hv, hf, hcycles, ⟨hregs, -, hcpu⟩, hrest⟩ := modifyReg_next (keepFlags g) r k s
  exact ⟨t, hexec, hv, hcycles, ⟨hregs, fun _ => hf, hcpu⟩, hrest⟩

/-- A byte operation on the byte at HL that writes no flag leaves the CPU as it was. -/
theorem modifyHl_keepFlags_next (g : Byte → Byte) (k : Nat) (s : State) :
    ∃ t, modifyHl (keepFlags g) k s = .next t ∧
      t = ((s.afterRead s.hl).busWrite s.hl (g (s.peek s.hl))).tick k ∧ t.cpu = s.cpu ∧ s.writesOnlyAt s.hl t := by
  obtain ⟨t, hexec, ht, -, hmem⟩ := modifyHl_next (keepFlags g) k s
  have hcpu : ((s.afterRead s.hl).busWrite s.hl (g (s.peek s.hl))).cpu = s.cpu := by simp
  have hflags : t = ((s.afterRead s.hl).busWrite s.hl (g (s.peek s.hl))).tick k := by
    rw [ht, keepFlags, ← hcpu]
    rfl
  exact ⟨t, hexec, hflags, by rw [hflags, State.tick_cpu, hcpu], hmem⟩

/-- Settles O21: the bit test writes the flags only, the bit's reset and set the operand only. -/
theorem bitTestResetSet : Obligations.BitTestResetSet := by
  intro b s
  refine ⟨fun r => ⟨⟨encode_bitReg b r, ?_⟩, ⟨encode_resReg b r, ?_⟩, encode_setReg b r, ?_⟩,
    ⟨encode_bitHl b, ?_⟩, ⟨encode_resHl b, ?_⟩, encode_setHl b, ?_⟩
  · rw [exec_bitReg, ← bitTest_eq]
    exact bitOp_next b (.reg r) 8 s
  · rw [exec_resReg, ← bitReset_eq]
    exact modifyReg_keepFlags_next (bitReset b) r 8 s
  · rw [exec_setReg, ← bitSet_eq]
    exact modifyReg_keepFlags_next (bitSet b) r 8 s
  · rw [exec_bitHl, ← bitTest_eq]
    exact bitOp_next b .hl 12 s
  · rw [exec_resHl, ← bitReset_eq]
    exact modifyHl_keepFlags_next (bitReset b) 16 s
  · rw [exec_setHl, ← bitSet_eq]
    exact modifyHl_keepFlags_next (bitSet b) 16 s

end Sys2Proof.Machine
end

section
/-! The jumps, calls and returns of 44_control.md: which bytes each form is (R800-R811), which shared operation gives it its
meaning, and when its condition holds; what the operations answer and leave alone stands in Laws/Operands. -/

namespace Sys2Proof.Machine

/-! ## The forms by condition and by restart target (R313, R317) -/

theorem encode_jpCond (cc : Cond) (nn : Word) :
    encode (Instr.jpCond cc nn) = [0b110#3 ++ cc.code ++ 0b010#3, lo nn, hi nn] := by
  cases cc <;> rfl

theorem encode_jrCond (cc : Cond) (e : Byte) : encode (Instr.jrCond cc e) = [0b001#3 ++ cc.code ++ 0b000#3, e] := by
  cases cc <;> rfl

theorem encode_callCond (cc : Cond) (nn : Word) :
    encode (Instr.callCond cc nn) = [0b110#3 ++ cc.code ++ 0b100#3, lo nn, hi nn] := by
  cases cc <;> rfl

theorem encode_retCond (cc : Cond) : encode (Instr.retCond cc) = [0b110#3 ++ cc.code ++ 0b000#3] := by cases cc <;> rfl

theorem encode_rst (n : Oct) : encode (Instr.rst n) = [0b11#2 ++ n.code ++ 0b111#3] := by cases n <;> rfl

/-! ## The meanings by condition and by restart target -/

/-- `JP cc,nn` is the conditional jump to `nn` (R802). -/
theorem exec_jpCond (cc : Cond) (nn : Word) (s : State) :
    exec (Instr.jpCond cc nn) s = jumpIf (condHolds cc s.cpu.f) nn 16 12 s := by
  cases cc <;> rfl

/-- `JR cc,e` is the conditional jump to PC plus `e` (R805). -/
theorem exec_jrCond (cc : Cond) (e : Byte) (s : State) :
    exec (Instr.jrCond cc e) s = jumpIf (condHolds cc s.cpu.f) (relTarget e s) 12 8 s := by
  cases cc <;> rfl

/-- `CALL cc,nn` is the conditional call of `nn` (R807). -/
theorem exec_callCond (cc : Cond) (nn : Word) (s : State) :
    exec (Instr.callCond cc nn) s = callIf (condHolds cc s.cpu.f) nn 24 12 s := by
  cases cc <;> rfl

/-- `RET cc` is the conditional return (R809). -/
theorem exec_retCond (cc : Cond) (s : State) : exec (Instr.retCond cc) s = retIf (condHolds cc s.cpu.f) 20 8 s := by
  cases cc <;> rfl

/-- `RST t` is a call of the target 8 · y (R811). -/
theorem exec_rst (n : Oct) (s : State) :
    exec (Instr.rst n) s = callIf true (BitVec.ofNat 16 (n.toNat * 8)) 16 16 s := by
  cases n <;> rfl

/-! ## Conditions (R800) -/

theorem condHolds_iff (cc : Cond) (f : Flags) : condHolds cc f = true ↔ condOn cc f := by
  cases cc with
  | nz | nc => exact iff_of_eq (Bool.not_eq_true' _)
  | z | c => exact Iff.rfl

theorem condHolds_eq_false_iff (cc : Cond) (f : Flags) : condHolds cc f = false ↔ ¬ condOn cc f := by
  rw [← condHolds_iff, Bool.not_eq_true]

/-! ## Jumps (R801-R805) -/

/-- An unconditional jump changes PC and the cycle counter only. -/
theorem jumpIf_true_next (target : Word) (k : Nat) (s : State) : ∃ t, jumpIf true target k k s = .next t ∧
    t.cpu.pc = target ∧ t.cycles = s.cycles + k ∧ s.keepsCpu { pc := true } t ∧ s.keepsDevices t ∧ s.keepsMemory t := by
  obtain ⟨t, hnext, htaken, -, hkept⟩ := jumpIf_next true target k k s
  obtain ⟨hpc, hcycles⟩ := htaken rfl
  exact ⟨t, hnext, hpc, hcycles, hkept⟩

/-- A conditional jump goes to its target exactly when the condition is on. -/
theorem jumpIf_condHolds_next (cc : Cond) (target : Word) (k m : Nat) (s : State) :
    ∃ t, jumpIf (condHolds cc s.cpu.f) target k m s = .next t ∧
      (condOn cc s.cpu.f → t.cpu.pc = target ∧ t.cycles = s.cycles + k) ∧
      (¬ condOn cc s.cpu.f → t.cpu.pc = s.cpu.pc ∧ t.cycles = s.cycles + m) ∧
      s.keepsCpu { pc := true } t ∧ s.keepsDevices t ∧ s.keepsMemory t := by
  rw [← condHolds_eq_false_iff, ← condHolds_iff]
  exact jumpIf_next _ target k m s

/-- A relative target is PC plus the signed displacement, modulo 65536 (R804). -/
theorem relTarget_toNat (e : Byte) (s : State) :
    ((relTarget e s).toNat : Int) = ((s.cpu.pc.toNat : Int) + e.toInt) % 65536 :=
  add_sext16 s.cpu.pc e

/-- Settles O22: every form is one jump, to `nn`, to HL or to the relative target. -/
theorem jumps : Obligations.Jumps := by
  intro s
  refine ⟨fun nn => ⟨rfl, jumpIf_true_next nn 16 s⟩, fun cc nn => ⟨encode_jpCond cc nn, ?_⟩,
    ⟨rfl, jumpIf_true_next s.hl 4 s⟩, fun e => ⟨⟨rfl, ?_⟩, fun cc => ⟨encode_jrCond cc e, ?_⟩⟩⟩
  · rw [exec_jpCond]
    exact jumpIf_condHolds_next cc nn 16 12 s
  · rw [← relTarget_toNat]
    obtain ⟨t, hnext, hpc, hkept⟩ := jumpIf_true_next (relTarget e s) 12 s
    exact ⟨t, hnext, by rw [hpc], hkept⟩
  · rw [exec_jrCond, ← relTarget_toNat]
    obtain ⟨t, hnext, htaken, hkept⟩ := jumpIf_condHolds_next cc (relTarget e s) 12 8 s
    exact ⟨t, hnext, fun hcond => ⟨by rw [(htaken hcond).1], (htaken hcond).2⟩, hkept⟩

/-! ## Calls and restarts (R806, R807, R811) -/

/-- A call is the push of PC, then the jump (R13). -/
theorem State.called_eq (s : State) (target : Word) (k : Nat) :
    s.called target k = ((s.push16 s.cpu.pc).setPc target).tick k := by
  rw [State.push16_eq]
  rfl

/-- An unconditional call ends in the called state, its two writes at the stack addresses. -/
theorem callIf_true_next (target : Word) (k : Nat) (s : State) : ∃ t, callIf true target k k s = .next t ∧
    t = s.called target k ∧ s.keepsCpu { sp := true, pc := true } t ∧
    s.writesOnlyAtTwo (s.cpu.sp - 1) (s.cpu.sp - 2) t := by
  rw [State.called_eq]
  obtain ⟨t, hnext, htaken, -, hkept⟩ := callIf_next true target k k s
  exact ⟨t, hnext, htaken rfl, hkept⟩

/-- A conditional call calls exactly when the condition is on; otherwise only time passes. -/
theorem callIf_condHolds_next (cc : Cond) (target : Word) (k m : Nat) (s : State) :
    ∃ t, callIf (condHolds cc s.cpu.f) target k m s = .next t ∧
      (condOn cc s.cpu.f → t = s.called target k) ∧ (¬ condOn cc s.cpu.f → t = s.tick m) ∧
      s.keepsCpu { sp := true, pc := true } t ∧ s.writesOnlyAtTwo (s.cpu.sp - 1) (s.cpu.sp - 2) t := by
  rw [← condHolds_eq_false_iff, ← condHolds_iff, State.called_eq]
  exact callIf_next _ target k m s

/-- Settles O23: CALL and RST are one call, with the target written out or 8 · y. -/
theorem callsAndRestarts : Obligations.CallsAndRestarts := by
  intro s
  refine ⟨fun nn => ⟨rfl, callIf_true_next nn 24 s⟩, fun cc nn => ⟨encode_callCond cc nn, ?_⟩,
    fun n => ⟨encode_rst n, ?_⟩⟩
  · rw [exec_callCond]
    exact callIf_condHolds_next cc nn 24 12 s
  · rw [exec_rst]
    exact callIf_true_next _ 16 s

/-! ## Returns (R808-R810) -/

/-- A write of IME adds it, and no other part of the CPU, to what may have changed. -/
theorem State.keepsCpu.setIme {s t : State} {w : Footprint} (h : s.keepsCpu w t) (b : Bool) :
    s.keepsCpu { w with ime := true } (t.setIme b) := by
  obtain ⟨hregs, hf, hsp, hpc, -, hrest⟩ := h
  exact ⟨hregs, hf, hsp, hpc, nofun, hrest⟩

/-- A write of IME reaches no device and no byte. -/
theorem State.keeps_setIme {s t : State} (hdev : s.keepsDevices t) (hmem : s.keepsMemory t) (b : Bool) :
    s.keepsDevices (t.setIme b) ∧ s.keepsMemory (t.setIme b) := by
  obtain ⟨-, hplaces, hreads⟩ := State.keeps_of_eq t (t.setIme b) _ _ _ rfl
  exact ⟨hdev, fun p => (hplaces p).trans (hmem.1 p), fun a ha => (hreads a ha).trans (hmem.2 a ha)⟩

/-- RETI ends in the state that RET ends in, with IME set (R810). -/
theorem exec_reti_of_ret (s t : State) (h : exec .ret s = .next t) : exec .reti s = .next (t.setIme true) := by
  cases h
  rfl

/-- An unconditional return puts the popped word in PC and changes nothing but PC, SP and the cycle counter. -/
theorem retIf_true_next (k : Nat) (s : State) : ∃ t, retIf true k k s = .next t ∧ t.cpu.pc = s.popValue ∧
    t.cpu.sp = s.cpu.sp + 2 ∧ t.cycles = s.cycles + k ∧
    s.keepsCpu { sp := true, pc := true } t ∧ s.keepsDevices t ∧ s.keepsMemory t := by
  obtain ⟨t, hnext, htaken, -, hkept⟩ := retIf_next true k k s
  obtain ⟨hpc, hsp, hcycles⟩ := htaken rfl
  exact ⟨t, hnext, hpc, hsp, hcycles, hkept⟩

/-- Settles O24: all three pop PC; RETI sets IME in the state that RET leaves. -/
theorem returns : Obligations.Returns := by
  intro s
  refine ⟨⟨rfl, retIf_true_next 16 s⟩, fun cc => ⟨encode_retCond cc, ?_⟩, rfl, ?_⟩
  · rw [exec_retCond, ← condHolds_eq_false_iff, ← condHolds_iff]
    exact retIf_next _ 20 8 s
  · obtain ⟨t, hnext, hpc, hsp, hcycles, hcpu, hdev, hmem⟩ := retIf_true_next 16 s
    exact ⟨t.setIme true, exec_reti_of_ret s t hnext, hpc, hsp, rfl, hcycles, hcpu.setIme true,
      State.keeps_setIme hdev hmem true⟩

end Sys2Proof.Machine
end

section
/-! System and CPU control (45_system.md R900-R904): what the latches' writes leave alone, what HALT and STOP do, and the delay with
which EI takes effect (60_exceptions.md R1040). -/

namespace Sys2Proof.Machine

/-! ## The EI delay (R1040) -/

/-- The end of the delay sets IME; without a delay that ends, IME is what it was. -/
@[simp] theorem State.endEiDelay_ime (arm : Bool) (s : State) :
    (State.endEiDelay arm s).cpu.ime = (arm && s.cpu.eiPending || s.cpu.ime) := by
  unfold State.endEiDelay
  cases h : arm && s.cpu.eiPending <;> rfl

/-- The step of a running CPU that takes no interrupt is its instruction's (R1000). -/
theorem step_of_running (s : State) (hrun : s.cpu.run = .running) (hint : ¬ s.interrupted) :
    step s = s.runInstruction 0 := by
  rw [step, State.stepOnce, hrun]
  exact if_neg hint

/-- After an instruction that does not fault, only the EI delay still reaches the CPU. -/
theorem step_cpu_of_not_faulted {s done t : State} (hrun : s.cpu.run = .running) (hint : ¬ s.interrupted)
    (hexec : exec s.fetchedInstr s.afterFetch = .next done) (hdone : done.cpu.run ≠ .faulted) (hstep : step s = .next t) :
    t.cpu = (State.endEiDelay s.cpu.eiPending done).cpu := by
  rw [step_of_running s hrun hint, State.runInstruction, hexec] at hstep
  cases hstep
  rw [State.completeStep_of_not_faulted 0 s done hdone, State.finishStep_cpu]

/-- Settles O32: at its end the step applies the EI delay, armed before the instruction, to the latches the instruction left. -/
theorem enableTakesEffectOneInstructionLate : Obligations.EnableTakesEffectOneInstructionLate := by
  intro s done t hrun hint hexec hdone hstep
  have hime : t.cpu.ime = (s.cpu.eiPending && done.cpu.eiPending || done.cpu.ime) := by
    rw [step_cpu_of_not_faulted hrun hint hexec hdone hstep, State.endEiDelay_ime]
  have hei : t.cpu.eiPending = (!s.cpu.eiPending && done.cpu.eiPending) := by
    rw [step_cpu_of_not_faulted hrun hint hexec hdone hstep, State.endEiDelay_eiPending]
  rw [hime, hei]
  refine ⟨fun harmed hleft => ?_, fun harmed hcleared => ?_, fun hunarmed => ?_⟩
  · simp [harmed, hleft]
  · simp [harmed, hcleared]
  · simp [hunarmed]

/-! ## What a write of a latch leaves alone -/

theorem State.keepsCpu_refl (s : State) : s.keepsCpu {} s :=
  ⟨fun _ _ => rfl, fun _ => rfl, fun _ => rfl, fun _ => rfl, fun _ => rfl, fun _ => rfl, fun _ => rfl, fun _ => rfl, rfl, rfl⟩

/-- A write of `ei_pending` adds it, and no other part of the CPU, to what may have changed. -/
theorem State.keepsCpu.setEiPending {s t : State} {w : Footprint} (h : s.keepsCpu w t) (b : Bool) :
    s.keepsCpu { w with eiPending := true } (t.setEiPending b) := by
  obtain ⟨hregs, hf, hsp, hpc, hime, -, hrest⟩ := h
  exact ⟨hregs, hf, hsp, hpc, hime, nofun, hrest⟩

/-- A write of `run` adds it, and no other part of the CPU, to what may have changed. -/
theorem State.keepsCpu.setRun {s t : State} {w : Footprint} (h : s.keepsCpu w t) (r : RunState) :
    s.keepsCpu { w with run := true } (t.setRun r) := by
  obtain ⟨hregs, hf, hsp, hpc, hime, hei, -, hrest⟩ := h
  exact ⟨hregs, hf, hsp, hpc, hime, hei, nofun, hrest⟩

/-- A write of the HALT-bug latch adds it, and no other part of the CPU, to what may have changed. -/
theorem State.keepsCpu.setHaltBug {s t : State} {w : Footprint} (h : s.keepsCpu w t) (b : Bool) :
    s.keepsCpu { w with haltBug := true } (t.setHaltBug b) := by
  obtain ⟨hregs, hf, hsp, hpc, hime, hei, hr, -, hrest⟩ := h
  exact ⟨hregs, hf, hsp, hpc, hime, hei, hr, nofun, hrest⟩

/-! ## NOP, DI and EI (R900, R903, R904) -/

/-- Settles O25: DI writes IME and `ei_pending`, EI `ei_pending` alone. -/
theorem nopDiEi : Obligations.NopDiEi := by
  intro s
  refine ⟨⟨rfl, rfl⟩, ⟨rfl, ((s.setIme false).setEiPending false).tick 4, rfl, rfl, rfl, rfl, ?_, ?_⟩,
    rfl, (s.setEiPending true).tick 4, rfl, rfl, rfl, ?_, ?_⟩
  · exact (s.keepsCpu_refl.setIme false).setEiPending false
  · exact State.keeps_of_eq _ _ _ _ _ rfl
  · exact s.keepsCpu_refl.setEiPending true
  · exact State.keeps_of_eq _ _ _ _ _ rfl

/-! ## HALT (R901) -/

/-- Nothing is pending when no source is both enabled and requested (R1010). -/
theorem State.pending_eq_zero_iff (s : State) :
    s.pending = 0 ↔ ∀ k, k < 5 → (s.intr.ie.getLsbD k && s.intr.iflag.getLsbD k) = false := by
  constructor
  · intro h k hk
    rw [← s.pending_getLsbD k hk, h]
    exact BitVec.getLsbD_zero
  · intro h
    refine BitVec.eq_of_getLsbD_eq fun k hk => ?_
    rw [s.pending_getLsbD k hk, h k hk]
    exact BitVec.getLsbD_zero.symm

theorem State.pending_ne_zero_iff (s : State) :
    s.pending ≠ 0 ↔ ∃ k, k < 5 ∧ (s.intr.ie.getLsbD k && s.intr.iflag.getLsbD k) = true := by
  rw [Ne, s.pending_eq_zero_iff]
  simp only [not_forall, Bool.not_eq_false, exists_prop]

/-- HALT writes `run` or the HALT-bug latch, by whether the CPU may wait for an interrupt. -/
theorem exec_halt_next (s : State) : ∃ t, exec .halt s = .next t ∧
    (s.cpu.ime = true ∨ s.pending = 0 → t.cpu.run = .halted ∧ s.keepsCpu { run := true } t) ∧
    (s.cpu.ime = false ∧ s.pending ≠ 0 → t.cpu.haltBug = true ∧ s.keepsCpu { haltBug := true } t) ∧
    t.cycles = s.cycles + 4 ∧ s.keepsDevices t ∧ s.keepsMemory t := by
  refine ⟨s.enterHalt.tick 4, rfl, ?_⟩
  rcases s.enterHalt_cases with ⟨hwait, h⟩ | ⟨hgo, h⟩ <;> rw [h]
  · refine ⟨fun _ => ⟨rfl, s.keepsCpu_refl.setRun .halted⟩, fun ⟨hime, hpend⟩ => ?_, rfl, State.keeps_of_eq _ _ _ _ _ rfl⟩
    rcases hwait with hset | hnone
    · exact absurd (hset.symm.trans hime) Bool.noConfusion
    · exact absurd hnone hpend
  · exact ⟨fun hwait => absurd hwait hgo, fun _ => ⟨rfl, s.keepsCpu_refl.setHaltBug true⟩, rfl,
      State.keeps_of_eq _ _ _ _ _ rfl⟩

/-! ## STOP (R902) -/

theorem ioReg_div (a : Word) (h : ioReg a = .div) : a = 0xFF04#16 := by
  unfold ioReg at h
  iterate 3 replace h := IoReg.else_of_ite h (by decide)
  by_contra hne
  rw [if_neg hne] at h
  iterate 17 replace h := IoReg.else_of_ite h (by decide)
  cases h

/-- No address but DIV's shows `div_counter` (R212). -/
theorem State.peek_divCounter (s : State) (n : Word) (a : Word) (ha : a ≠ 0xFF04#16) :
    State.peek { s with timer := { s.timer with divCounter := n } } a = s.peek a := by
  have hdiv : ioReg a ≠ .div := fun h => ha (ioReg_div a h)
  unfold State.peek State.busRead
  cases hregion : region a with
  | io =>
    cases hreg : ioReg a with
    | div => exact absurd hreg hdiv
    | _ => rfl
  | _ => rfl

/-- STOP stops the CPU and clears `div_counter`, and nothing else changes. -/
theorem exec_stop_next (n : Byte) (s : State) : ∃ t, exec (.stop n) s = .next t ∧ t.cpu.run = .stopped ∧
    t.timer = { s.timer with divCounter := 0 } ∧ t.cycles = s.cycles + 4 ∧ s.keepsCpu { run := true } t ∧
    s.keepsDevices { t with timer := s.timer } ∧ (∀ p, Memory.read t.mem p = Memory.read s.mem p) ∧
    ∀ a, isAudio a = false → a ≠ 0xFF04#16 → t.peek a = s.peek a := by
  refine ⟨s.enterStop.tick 4, rfl, rfl, rfl, rfl, s.keepsCpu_refl.setRun .stopped, State.keepsDevices_refl s,
    fun _ => rfl, fun a _ ha => ?_⟩
  exact (State.busRead_cpu { s with timer := { s.timer with divCounter := 0 } } _ _ true a).trans (s.peek_divCounter 0 a ha)

/-- Settles O26: HALT by what is pending, bit by bit, and STOP whatever its second byte. -/
theorem haltAndStop : Obligations.HaltAndStop := by
  intro s
  refine ⟨⟨rfl, ?_⟩, fun n => ⟨rfl, exec_stop_next n s⟩⟩
  rw [← s.pending_eq_zero_iff, ← s.pending_ne_zero_iff]
  exact exec_halt_next s

end Sys2Proof.Machine
end

section
/-! The PPU's position in the frame (60_exceptions.md R1100, R1101, R1104) through a tick and through device time. -/

namespace Sys2Proof.Machine

/-! ## The PPU's registers after a tick -/

/-- The PPU's registers at the start of the line after this one, the LY = LYC compare aside (R1101, R1103). -/
def State.lineStart (s : State) : Ppu :=
  if (s.ppu.ly.toNat + 1) % 154 = 144 then
    { s.lineDone.ppu with
      mode := .vblank, frameComplete := true, lastFrame := s.lineDone.ppu.framebuffer, winLine := 0 }
  else { s.lineDone.ppu with mode := if (s.ppu.ly.toNat + 1) % 154 < 144 then .oamScan else s.ppu.mode }

theorem State.endLine_ppu (s : State) : ∃ c, s.endLine.ppu = { s.lineStart with statCoincidence := c } := by
  rw [s.endLine_eq]
  unfold State.lineStart
  by_cases hv : (s.ppu.ly.toNat + 1) % 154 = 144
  · simpa only [if_pos hv, State.enterVblank_ppu] using s.lineDone.enterVblank.lycCompare_ppu_eq
  · by_cases hn : (s.ppu.ly.toNat + 1) % 154 < 144
    · simpa only [if_neg hv, if_pos hn, State.setMode_ppu] using (s.lineDone.setMode .oamScan).lycCompare_ppu_eq
    · simpa only [if_neg hv, if_neg hn, s.lineDone_ppu] using s.lineDone.lycCompare_ppu_eq

theorem State.ppuTick_ppu (s : State) (ho : s.lcdOn = true) :
    s.ppuTick.ppu = if s.ppu.dot + 1 = 456 then s.tickWithin.endLine.ppu else s.tickWithin.ppu := by
  rw [State.ppuTick, if_pos ho, State.statEdge_ppu, s.ppuAdvance_eq, apply_ite State.ppu]

/-- A tick within a line moves the dot, and the mode with it. -/
theorem State.ppuTick_ppu_within (s : State) (ho : s.lcdOn = true) (hd : s.ppu.dot ≠ 455) :
    s.ppuTick.ppu = { s.ppu with dot := s.ppu.dot + 1, mode := s.tickMode } := by
  rw [s.ppuTick_ppu ho, if_neg (by omega), s.tickWithin_ppu]

/-- The tick that ends a line starts the next one. -/
theorem State.ppuTick_ppu_lineEnd (s : State) (ho : s.lcdOn = true) (hd : s.ppu.dot = 455) :
    ∃ c, s.ppuTick.ppu = { s.tickWithin.lineStart with statCoincidence := c } := by
  rw [s.ppuTick_ppu ho, if_pos (by omega)]
  exact s.tickWithin.endLine_ppu

theorem State.lineStart_ly (s : State) : s.lineStart.ly = nextLy s.ppu.ly := by
  unfold State.lineStart; split <;> rw [s.lineDone_ppu]

theorem State.lineStart_dot (s : State) : s.lineStart.dot = 0 := by
  unfold State.lineStart; split <;> rw [s.lineDone_ppu]

theorem State.lineStart_lcdc (s : State) : s.lineStart.lcdc = s.ppu.lcdc := by
  unfold State.lineStart; split <;> rw [s.lineDone_ppu]

/-- A line starts in V-blank or in mode 2 (R1100). -/
theorem State.lineStart_mode (s : State) (hm : 144 ≤ s.ppu.ly.toNat → s.ppu.mode = .vblank) :
    s.lineStart.mode = if 144 ≤ (s.ppu.ly.toNat + 1) % 154 then .vblank else .oamScan := by
  unfold State.lineStart
  by_cases hv : (s.ppu.ly.toNat + 1) % 154 = 144
  · simp [hv]
  · by_cases hn : (s.ppu.ly.toNat + 1) % 154 < 144
    · rw [if_neg hv, if_pos hn, if_neg (by omega)]
    · rw [if_neg hv, if_neg hn, if_pos (by omega)]
      exact hm (by omega)

/-! ## The position -/

/-- The position in the frame: the dots since the start of line 0. -/
def State.framePosition (s : State) : Nat := s.ppu.ly.toNat * 456 + s.ppu.dot

theorem State.ppuPositionOk_iff_of_on (s : State) (ho : s.lcdOn = true) : s.ppuPositionOk = true ↔
    s.ppu.dot < 456 ∧ s.ppu.ly.toNat < 154 ∧ s.ppu.mode = lineMode s.launch.params.mode3T s.ppu.ly.toNat s.ppu.dot := by
  simp [s.ppuPositionOk_iff, ho]

theorem State.framePosition_lt (s : State) (hd : s.ppu.dot < 456) (hly : s.ppu.ly.toNat < 154) :
    s.framePosition < 70224 := by
  unfold State.framePosition; omega

/-- A tick with the LCD on moves a well-formed position one dot further round the frame (R1101, R1104). -/
theorem State.ppuTick_position (s : State) (ho : s.lcdOn = true) (hp : s.ppuPositionOk = true) :
    s.ppuTick.lcdOn = true ∧ s.ppuTick.ppuPositionOk = true ∧
      s.ppuTick.framePosition = (s.framePosition + 1) % 70224 := by
  obtain ⟨hdot, hly, hmode⟩ := (s.ppuPositionOk_iff_of_on ho).1 hp
  have hwithin := s.tickMode_eq hmode
  by_cases hd : s.ppu.dot = 455
  · obtain ⟨c, hc⟩ := s.ppuTick_ppu_lineEnd ho hd
    have hvblank : 144 ≤ s.tickWithin.ppu.ly.toNat → s.tickWithin.ppu.mode = .vblank := by
      rw [s.tickWithin_ppu]
      exact fun hy => hwithin.trans (if_pos hy)
    have hlyNew : s.ppuTick.ppu.ly = nextLy s.ppu.ly := by simp [hc, State.lineStart_ly, s.tickWithin_ppu]
    have hdotNew : s.ppuTick.ppu.dot = 0 := by simp [hc, State.lineStart_dot]
    have hon : s.ppuTick.lcdOn = true := by
      simpa [State.lcdOn, hc, State.lineStart_lcdc, s.tickWithin_ppu] using ho
    refine ⟨hon, State.ppuPositionOk_of_lineStart _ hon hdotNew ?_ ?_, ?_⟩
    · rw [hlyNew, nextLy_toNat]; omega
    · rw [hlyNew, nextLy_toNat, hc]
      simpa [s.tickWithin_ppu] using s.tickWithin.lineStart_mode hvblank
    · unfold State.framePosition
      rw [hlyNew, hdotNew, nextLy_toNat]
      omega
  · have ht := s.ppuTick_ppu_within ho hd
    have hon : s.ppuTick.lcdOn = true := by simpa [State.lcdOn, ht] using ho
    rw [State.ppuPositionOk_iff_of_on _ hon, State.framePosition, State.framePosition, ht, s.ppuTick_launch]
    dsimp only
    exact ⟨hon, ⟨by omega, hly, hwithin⟩, by omega⟩

theorem State.deviceTick_position (s : State) (ho : s.lcdOn = true) (hp : s.ppuPositionOk = true) :
    s.deviceTick.lcdOn = true ∧ s.deviceTick.ppuPositionOk = true ∧
      s.deviceTick.framePosition = (s.framePosition + 1) % 70224 := by
  have hon : s.timerTick.lcdOn = true := by simpa [State.lcdOn] using ho
  have hpos : s.timerTick.ppuPositionOk = true := by simpa [State.ppuPositionOk, State.lcdOn] using hp
  have hsame : s.timerTick.framePosition = s.framePosition := by simp [State.framePosition]
  rw [← hsame]
  exact s.timerTick.ppuTick_position hon hpos

/-- Device time with the LCD on keeps the position well-formed and moves it round the frame. -/
theorem State.advanceDevices_position (n : Nat) (s : State) (ho : s.lcdOn = true) (hp : s.ppuPositionOk = true) :
    (State.advanceDevices n s).lcdOn = true ∧ (State.advanceDevices n s).ppuPositionOk = true ∧
      (State.advanceDevices n s).framePosition = (s.framePosition + n) % 70224 := by
  induction n generalizing s with
  | zero =>
    obtain ⟨hdot, hly, -⟩ := (s.ppuPositionOk_iff_of_on ho).1 hp
    refine ⟨ho, hp, ?_⟩
    rw [Nat.add_zero, Nat.mod_eq_of_lt (s.framePosition_lt hdot hly)]
    rfl
  | succ n ih =>
    obtain ⟨hon, hpos, hmove⟩ := s.deviceTick_position ho hp
    obtain ⟨hon', hpos', hmove'⟩ := ih s.deviceTick hon hpos
    exact ⟨hon', hpos', hmove'.trans (by rw [hmove, Nat.mod_add_mod, Nat.add_right_comm, Nat.add_assoc])⟩

/-- Settles O46, by induction on the T-cycles: each tick keeps the position well-formed and moves it by one dot. -/
theorem framePositionAdvances : Obligations.FramePositionAdvances := by
  intro n s ho hp
  obtain ⟨hon, hpos, hmove⟩ := State.advanceDevices_position n s ho hp
  obtain ⟨hdot, -, hmode⟩ := (State.ppuPositionOk_iff_of_on _ hon).1 hpos
  rw [State.advanceDevices_launch] at hmode
  exact ⟨hmove, hdot, hmode, hon⟩

end Sys2Proof.Machine
end

section
/-! Which interrupts the devices request (60_exceptions.md R1002, R1010, R1011), and the timer's counting (R1060-R1063). -/

namespace Sys2Proof.Machine

/-! ## Requests -/

/-- From `s` to `t` no bit of IF is cleared, and only the bits of the listed sources can be set (R1010). -/
def State.requestsOnly (s : State) (is : List IntSource) (t : State) : Prop :=
  (∀ k, s.intr.iflag.getLsbD k = true → t.intr.iflag.getLsbD k = true) ∧
    ∀ k, (∀ i ∈ is, i.bit ≠ k) → t.intr.iflag.getLsbD k = s.intr.iflag.getLsbD k

theorem State.requestsOnly_of_iflag_eq {s t : State} (is : List IntSource) (h : t.intr.iflag = s.intr.iflag) :
    s.requestsOnly is t := by
  unfold State.requestsOnly
  rw [h]
  exact ⟨fun _ hk => hk, fun _ _ => rfl⟩

theorem State.requestsOnly.trans {s t u : State} {is : List IntSource} (h : s.requestsOnly is t)
    (h' : t.requestsOnly is u) : s.requestsOnly is u :=
  ⟨fun k hk => h'.1 k (h.1 k hk), fun k hk => (h'.2 k hk).trans (h.2 k hk)⟩

theorem State.requestsOnly.mono {s t : State} {is js : List IntSource} (h : s.requestsOnly is t) (hsub : is ⊆ js) :
    s.requestsOnly js t :=
  ⟨h.1, fun k hk => h.2 k fun i hi => hk i (hsub hi)⟩

theorem request_bit_other (x : BitVec 5) (i : IntSource) (k : Nat) (hk : i.bit ≠ k) :
    (x ||| 1#5 <<< i.bit).getLsbD k = x.getLsbD k := by
  have hoff : (BitVec.twoPow 5 i.bit).getLsbD k = false := by
    rw [BitVec.getLsbD_twoPow, decide_eq_false hk, Bool.and_false]
  exact (BitVec.getLsbD_or).trans (by rw [← BitVec.twoPow_eq, hoff, Bool.or_false])

theorem State.requestsOnly.request {s t : State} {is : List IntSource} (h : s.requestsOnly is t) {i : IntSource}
    (hi : i ∈ is) : s.requestsOnly is (t.request i) :=
  h.trans ⟨fun k hk => by simp [hk], fun k hk => request_bit_other _ i k (hk i hi)⟩

theorem State.incTima_requests (s : State) : s.requestsOnly [.timer] s.incTima := by
  unfold State.incTima
  split
  · exact (State.requestsOnly_of_iflag_eq _ rfl).request (by simp)
  · exact State.requestsOnly_of_iflag_eq _ rfl

theorem State.timerTick_requests (s : State) : s.requestsOnly [.timer] s.timerTick := by
  have htime : s.requestsOnly [.timer] { s with timer := { s.timer with divCounter := s.timer.divCounter + 1 } } :=
    State.requestsOnly_of_iflag_eq _ rfl
  unfold State.timerTick
  dsimp only
  split
  · exact htime.trans (State.incTima_requests _)
  · exact htime

theorem State.setMode_requests (s : State) (m : PpuMode) : s.requestsOnly [.stat] (s.setMode m) := by
  unfold State.setMode
  dsimp only
  split
  · exact (State.requestsOnly_of_iflag_eq _ rfl).request (by simp)
  · exact State.requestsOnly_of_iflag_eq _ rfl

theorem State.lycCompare_requests (s : State) : s.requestsOnly [.stat] s.lycCompare := by
  unfold State.lycCompare
  dsimp only
  split
  · split
    · exact (State.requestsOnly_of_iflag_eq _ rfl).request (by simp)
    · exact State.requestsOnly_of_iflag_eq _ rfl
  · exact State.requestsOnly_of_iflag_eq _ rfl

theorem State.statEdge_requests (b s : State) : s.requestsOnly [.stat] (State.statEdge b s) := by
  unfold State.statEdge
  split
  · exact (State.requestsOnly_of_iflag_eq _ rfl).request (by simp)
  · exact State.requestsOnly_of_iflag_eq _ rfl

theorem State.tickWithin_requests (s : State) : s.requestsOnly [.stat] s.tickWithin := by
  unfold State.requestsOnly
  rw [s.tickWithin_iflag]
  split
  · exact (State.requestsOnly_of_iflag_eq (t := s) [.stat] rfl).request (i := .stat) (by simp)
  · exact State.requestsOnly_of_iflag_eq (t := s) [.stat] rfl

theorem State.enterVblank_requests (s : State) : s.requestsOnly [.vblank, .stat] s.enterVblank :=
  ((s.setMode_requests .vblank).mono (by simp)).request (i := .vblank) (by simp)

/-- The end of a line requests LCD STAT alone, unless V-blank begins (R1101). -/
theorem State.endLine_requests_stat (s : State) (hv : (s.ppu.ly.toNat + 1) % 154 ≠ 144) :
    s.requestsOnly [.stat] s.endLine := by
  have hdone : s.requestsOnly [.stat] s.lineDone := State.requestsOnly_of_iflag_eq _ (by rw [s.lineDone_intr])
  rw [s.endLine_eq, if_neg hv]
  split
  · exact (hdone.trans (State.setMode_requests _ _)).trans (State.lycCompare_requests _)
  · exact hdone.trans (State.lycCompare_requests _)

theorem State.endLine_requests (s : State) : s.requestsOnly [.vblank, .stat] s.endLine := by
  by_cases hv : (s.ppu.ly.toNat + 1) % 154 = 144
  · have hdone : s.requestsOnly [.vblank, .stat] s.lineDone :=
      State.requestsOnly_of_iflag_eq _ (by rw [s.lineDone_intr])
    rw [s.endLine_eq, if_pos hv]
    exact (hdone.trans (State.enterVblank_requests _)).trans ((State.lycCompare_requests _).mono (by simp))
  · exact (s.endLine_requests_stat hv).mono (by simp)

theorem State.ppuTick_requests (s : State) : s.requestsOnly [.vblank, .stat] s.ppuTick := by
  unfold State.ppuTick
  split
  · have hwithin : s.requestsOnly [.vblank, .stat] s.tickWithin := s.tickWithin_requests.mono (by simp)
    have hadvance : s.requestsOnly [.vblank, .stat] s.ppuAdvance := by
      rw [s.ppuAdvance_eq]
      split
      · exact hwithin.trans (State.endLine_requests _)
      · exact hwithin
    exact hadvance.trans ((State.statEdge_requests _ _).mono (by simp))
  · exact State.requestsOnly_of_iflag_eq _ rfl

theorem State.advanceDevices_requests (n : Nat) (s : State) :
    s.requestsOnly [.vblank, .stat, .timer] (State.advanceDevices n s) := by
  induction n generalizing s with
  | zero => exact State.requestsOnly_of_iflag_eq _ rfl
  | succ n ih =>
    have htimer : s.requestsOnly [.vblank, .stat, .timer] s.timerTick := s.timerTick_requests.mono (by simp)
    exact (htimer.trans (s.timerTick.ppuTick_requests.mono (by simp))).trans (ih s.deviceTick)

/-- Settles O45: one more T-cycle is one more device tick, and each device requests its own interrupts and keeps the rest. -/
theorem devicesRequestOnlyTheirOwnInterrupts : Obligations.DevicesRequestOnlyTheirOwnInterrupts := by
  intro n s
  obtain ⟨hset, hkept⟩ := State.advanceDevices_requests n s
  exact ⟨State.advanceDevices_succ n s, hkept 3 (by decide), hkept 4 (by decide), hset, by simp, by simp, by simp, by simp,
    by simp, by simp, by simp⟩

/-! ## Counting -/

/-- The timer's signal: TAC[2] and the `div_counter` bit that TAC[1:0] selects (R1060). -/
theorem timerSignal_eq (t : Timer) : timerSignal t =
    (t.tac.getLsbD 2 && t.divCounter.getLsbD ([9, 3, 5, 7].getD (t.tac.toNat % 4) 0)) := by
  have hbit : ∀ tac : BitVec 3, timerBit (tac.extractLsb' 0 2) = [9, 3, 5, 7].getD (tac.toNat % 4) 0 := by decide
  rw [timerSignal, hbit]

/-- From `s` to `t` TIMA counts exactly when the signal falls, `before` and `after` being its values; counting 0xFF reloads TMA and
requests the Timer interrupt (R1060, R1062). -/
def State.countsOnFall (s t : State) (before after : Bool) : Prop :=
  t.timer.tma = s.timer.tma ∧
    if before = true ∧ after = false then
      (if s.timer.tima.toNat = 255 then t.timer.tima = s.timer.tma ∧ t.intr.iflag = s.intr.iflag ||| 0b00100#5
       else t.timer.tima.toNat = s.timer.tima.toNat + 1 ∧ t.intr.iflag = s.intr.iflag)
    else t.timer.tima = s.timer.tima ∧ t.intr.iflag = s.intr.iflag

theorem State.incTima_of_overflow (s : State) (h : s.timer.tima.toNat = 255) :
    s.incTima = State.request { s with timer := { s.timer with tima := s.timer.tma } } .timer :=
  if_pos (BitVec.eq_of_toNat_eq h)

theorem State.incTima_of_no_overflow (s : State) (h : s.timer.tima.toNat ≠ 255) :
    s.incTima = { s with timer := { s.timer with tima := s.timer.tima + 1 } } :=
  if_neg fun he => h (by rw [he]; rfl)

/-- The state with `div_counter` and TAC written. -/
def State.withDivTac (s : State) (div : Word) (tac : BitVec 3) : State :=
  { s with timer := { s.timer with divCounter := div, tac := tac } }

/-- Count TIMA when the signal falls. -/
def State.countWhen (s : State) (fall : Bool) : State := if fall = true then s.incTima else s

theorem State.timerTick_eq (s : State) : s.timerTick =
    (s.withDivTac (s.timer.divCounter + 1) s.timer.tac).countWhen (timerSignal s.timer &&
      !timerSignal (s.withDivTac (s.timer.divCounter + 1) s.timer.tac).timer) := rfl

theorem State.divWrite_eq (s : State) : s.divWrite =
    (s.withDivTac 0 s.timer.tac).countWhen (timerSignal s.timer && !false) := by
  rw [Bool.not_false, Bool.and_true]; rfl

theorem State.tacWrite_eq (s : State) (v : BitVec 3) : s.tacWrite v =
    (s.withDivTac s.timer.divCounter v).countWhen (timerSignal s.timer &&
      !timerSignal (s.withDivTac s.timer.divCounter v).timer) := rfl

theorem State.incTima_countsOnFall (s : State) : s.incTima.timer.divCounter = s.timer.divCounter ∧
    s.incTima.timer.tac = s.timer.tac ∧ s.countsOnFall s.incTima true false := by
  unfold State.countsOnFall
  rw [if_pos ⟨rfl, rfl⟩]
  by_cases hover : s.timer.tima.toNat = 255
  · rw [s.incTima_of_overflow hover, if_pos hover]
    exact ⟨rfl, rfl, rfl, rfl, rfl⟩
  · have hlt := s.timer.tima.isLt
    rw [s.incTima_of_no_overflow hover, if_neg hover]
    exact ⟨rfl, rfl, rfl, BitVec.toNat_add_of_lt (y := 1#8) (by change _ + 1 < 256; omega), rfl⟩

/-- A count when the signal falls is what counting on a fall means, and leaves `div_counter` and TAC. -/
theorem State.countWhen_countsOnFall (s : State) (before after : Bool) :
    (s.countWhen (before && !after)).timer.divCounter = s.timer.divCounter ∧
      (s.countWhen (before && !after)).timer.tac = s.timer.tac ∧
      s.countsOnFall (s.countWhen (before && !after)) before after := by
  cases before with
  | false => exact ⟨rfl, rfl, rfl, by rw [if_neg (by simp)]; exact ⟨rfl, rfl⟩⟩
  | true =>
    cases after with
    | false => exact s.incTima_countsOnFall
    | true => exact ⟨rfl, rfl, rfl, by rw [if_neg (by simp)]; exact ⟨rfl, rfl⟩⟩

theorem State.timerTick_countsOnFall (s : State) :
    s.timerTick.timer.divCounter = s.timer.divCounter + 1 ∧ s.timerTick.timer.tac = s.timer.tac ∧
      s.countsOnFall s.timerTick (timerSignal s.timer)
        (timerSignal { s.timer with divCounter := s.timer.divCounter + 1 }) := by
  rw [s.timerTick_eq]
  exact State.countWhen_countsOnFall (s.withDivTac _ _) _ _

/-- Settles O43: each of the three writes `div_counter` or TAC and counts when the signal falls. -/
theorem timerCountsOnFallingEdges : Obligations.TimerCountsOnFallingEdges := by
  intro s v
  have hdiv : s.busWrite 0xFF04 v = s.divWrite := s.busWrite_io _ v .div rfl rfl
  have htac : s.busWrite 0xFF07 v = s.tacWrite (v.extractLsb' 0 3) := s.busWrite_io _ v .tac rfl rfl
  refine ⟨?_, ?_, ?_⟩
  · have h := s.timerTick_countsOnFall
    rwa [timerSignal_eq, timerSignal_eq] at h
  · rw [hdiv, s.divWrite_eq, timerSignal_eq]
    exact State.countWhen_countsOnFall (s.withDivTac _ _) _ _
  · rw [htac, s.tacWrite_eq, timerSignal_eq, timerSignal_eq]
    exact State.countWhen_countsOnFall (s.withDivTac _ _) _ _

/-! ## The rate -/

/-- The T-cycles between two counts, as TAC[1:0] selects (R1060). -/
def timerPeriod (tac : BitVec 3) : Nat := [1024, 16, 64, 256].getD (tac.toNat % 4) 0

theorem timerPeriod_cases (tac : BitVec 3) : (tac.toNat % 4 = 0 ∧ timerPeriod tac = 1024) ∨
    (tac.toNat % 4 = 1 ∧ timerPeriod tac = 16) ∨ (tac.toNat % 4 = 2 ∧ timerPeriod tac = 64) ∨
    (tac.toNat % 4 = 3 ∧ timerPeriod tac = 256) := by
  revert tac; decide

theorem getLsbD_word (x : Word) (k : Nat) : x.getLsbD k = decide (x.toNat / 2 ^ k % 2 = 1) := by
  rw [BitVec.getLsbD, Nat.testBit_eq_decide_div_mod_eq]

theorem word_succ_toNat (x : Word) : (x + 1).toNat = (x.toNat + 1) % 65536 := BitVec.toNat_add x 1

/-- The selected bit falls when `div_counter` passes a multiple of the period. -/
theorem div_bit_falls_iff (tac : BitVec 3) (div : Word) :
    (let k := [9, 3, 5, 7].getD (tac.toNat % 4) 0
     div.getLsbD k = true ∧ (div + 1).getLsbD k = false) ↔ div.toNat % timerPeriod tac + 1 = timerPeriod tac := by
  simp only [getLsbD_word, word_succ_toNat, decide_eq_true_eq, decide_eq_false_iff_not]
  have hlt := div.isLt
  rcases timerPeriod_cases tac with ⟨h, hp⟩ | ⟨h, hp⟩ | ⟨h, hp⟩ | ⟨h, hp⟩ <;>
    simp only [h, hp, List.getD_cons_zero, List.getD_cons_succ] <;> omega

/-- The signal of a timer that is on falls when the tick takes `div_counter` to a multiple of the period. -/
theorem timerSignal_falls_iff (t : Timer) (h : t.tac.getLsbD 2 = true) :
    (timerSignal t = true ∧ timerSignal { t with divCounter := t.divCounter + 1 } = false) ↔
      t.divCounter.toNat % timerPeriod t.tac + 1 = timerPeriod t.tac := by
  rw [timerSignal_eq, timerSignal_eq, h, Bool.true_and, Bool.true_and]
  exact div_bit_falls_iff t.tac t.divCounter

theorem timerPeriod_dvd (tac : BitVec 3) : timerPeriod tac ∣ 65536 := by revert tac; decide

theorem timerPeriod_pos (tac : BitVec 3) : 0 < timerPeriod tac := by revert tac; decide

/-- A tick that does not overflow counts the multiple of the period it reaches, if it reaches one. -/
theorem State.timerTick_rate (s : State) (h : s.timer.tac.getLsbD 2 = true)
    (hlt : s.timer.tima.toNat + (s.timer.divCounter.toNat % timerPeriod s.timer.tac + 1) / timerPeriod s.timer.tac ≤ 255) :
    s.timerTick.timer.tima.toNat =
        s.timer.tima.toNat + (s.timer.divCounter.toNat % timerPeriod s.timer.tac + 1) / timerPeriod s.timer.tac ∧
      s.timerTick.intr.iflag = s.intr.iflag := by
  obtain ⟨-, -, -, hcount⟩ := s.timerTick_countsOnFall
  have hmod := Nat.mod_lt s.timer.divCounter.toNat (timerPeriod_pos s.timer.tac)
  have hfalls := timerSignal_falls_iff s.timer h
  by_cases hmultiple : s.timer.divCounter.toNat % timerPeriod s.timer.tac + 1 = timerPeriod s.timer.tac
  · rw [hmultiple, Nat.div_self (timerPeriod_pos _)] at hlt ⊢
    rwa [if_pos (hfalls.2 hmultiple), if_neg (by omega)] at hcount
  · rw [if_neg (fun hf => hmultiple (hfalls.1 hf))] at hcount
    rw [Nat.div_eq_of_lt (by omega)]
    exact ⟨congrArg BitVec.toNat hcount.1, hcount.2⟩

/-- Multiples of `p` passed in `1 + n` ticks: those of the first tick and those of the other `n`. -/
theorem multiples_passed_succ (d p n : Nat) (hp : 0 < p) :
    (d % p + (n + 1)) / p = (d % p + 1) / p + ((d + 1) % p + n) / p :=
  calc (d % p + (n + 1)) / p = ((d % p + 1) % p + n + (d % p + 1) / p * p) / p := by
        rw [Nat.add_right_comm, Nat.mod_add_div', Nat.add_assoc, Nat.add_comm 1]
    _ = ((d + 1) % p + n) / p + (d % p + 1) / p := by rw [Nat.add_mul_div_right _ _ hp, Nat.mod_add_mod]
    _ = (d % p + 1) / p + ((d + 1) % p + n) / p := Nat.add_comm _ _

/-- Over device time in which TIMA does not overflow it counts the multiples of the period that `div_counter` passes. -/
theorem State.advanceDevices_rate (n : Nat) (s : State) (h : s.timer.tac.getLsbD 2 = true)
    (hlt : s.timer.tima.toNat + (s.timer.divCounter.toNat % timerPeriod s.timer.tac + n) / timerPeriod s.timer.tac ≤ 255) :
    (State.advanceDevices n s).timer.tima.toNat =
        s.timer.tima.toNat + (s.timer.divCounter.toNat % timerPeriod s.timer.tac + n) / timerPeriod s.timer.tac ∧
      (State.advanceDevices n s).intr.iflag.getLsbD 2 = s.intr.iflag.getLsbD 2 := by
  induction n generalizing s with
  | zero =>
    rw [Nat.add_zero, Nat.div_eq_of_lt (Nat.mod_lt _ (timerPeriod_pos _))]
    exact ⟨rfl, rfl⟩
  | succ n ih =>
    rw [multiples_passed_succ _ _ _ (timerPeriod_pos _), ← Nat.add_assoc] at hlt ⊢
    obtain ⟨hdiv, htac, -⟩ := s.timerTick_countsOnFall
    obtain ⟨htima, hiflag⟩ := s.timerTick_rate h ((Nat.le_add_right _ _).trans hlt)
    have hppu := s.timerTick.ppuTick_requests.2 2 (by decide)
    have hnext : (s.timer.divCounter + 1).toNat % timerPeriod s.timer.tac =
        (s.timer.divCounter.toNat + 1) % timerPeriod s.timer.tac := by
      rw [word_succ_toNat]
      exact Nat.mod_mod_of_dvd _ (timerPeriod_dvd _)
    have htimer : s.deviceTick.timer = s.timerTick.timer := s.timerTick.ppuTick_timer
    have hrest := ih s.deviceTick (by rw [htimer, htac, h])
    rw [htimer, htac, hdiv, hnext, htima] at hrest
    obtain ⟨hcount, hbit⟩ := hrest hlt
    exact ⟨hcount, hbit.trans (hppu.trans (by rw [hiflag]))⟩

/-- Settles O44, by induction on the T-cycles: one tick counts exactly when it reaches a multiple of the period. -/
theorem timerRate : Obligations.TimerRate := fun s n h hlt => State.advanceDevices_rate n s h hlt

end Sys2Proof.Machine
end

section
/-! V-blank entry (60_exceptions.md R1101, R1103) and the LCD STAT requests (R1102, R1106, R1107, R1118). -/

namespace Sys2Proof.Machine

/-! ## V-blank -/

theorem State.ppuTick_eq (s : State) (ho : s.lcdOn = true) : s.ppuTick = State.statEdge s s.ppuAdvance := if_pos ho

theorem State.ppuAdvance_of_lineEnd (s : State) (hd : s.ppu.dot = 455) : s.ppuAdvance = s.tickWithin.endLine := by
  rw [s.ppuAdvance_eq, if_pos (by omega)]

theorem State.ppuAdvance_of_within (s : State) (hd : s.ppu.dot ≠ 455) : s.ppuAdvance = s.tickWithin := by
  rw [s.ppuAdvance_eq, if_neg (by omega)]

theorem State.enterVblank_sets_bit (s : State) : s.enterVblank.intr.iflag.getLsbD 0 = true := by
  rw [s.enterVblank_iflag]; simp

/-- Line 143 is the one line that V-blank follows. -/
theorem vblank_follows_iff (ly : Byte) : (ly.toNat + 1) % 154 = 144 ↔ ly = 143 := by revert ly; decide

theorem State.lineStart_of_vblank (s : State) (hv : (s.ppu.ly.toNat + 1) % 154 = 144) : s.lineStart =
    { s.lineDone.ppu with
      mode := .vblank, frameComplete := true, lastFrame := s.lineDone.ppu.framebuffer, winLine := 0 } := if_pos hv

theorem State.lineStart_keeps_frame (s : State) (hv : (s.ppu.ly.toNat + 1) % 154 ≠ 144) :
    s.lineStart.frameComplete = s.ppu.frameComplete ∧ s.lineStart.lastFrame = s.ppu.lastFrame := by
  rw [State.lineStart, if_neg hv, s.lineDone_ppu]
  exact ⟨rfl, rfl⟩

/-- The end of line 143 requests V-blank. -/
theorem State.endLine_requests_vblank (s : State) (hv : (s.ppu.ly.toNat + 1) % 154 = 144) :
    s.endLine.intr.iflag.getLsbD 0 = true := by
  rw [s.endLine_eq, if_pos hv]
  exact (State.lycCompare_requests _).1 0 (State.enterVblank_sets_bit _)

/-- The tick that ends line 143 enters V-blank. -/
theorem State.ppuTick_enters_vblank (s : State) (ho : s.lcdOn = true) (hly : s.ppu.ly = 143) (hd : s.ppu.dot = 455) :
    (let t := s.ppuTick
     t.intr.iflag.getLsbD 0 = true ∧ t.ppu.frameComplete = true ∧ t.ppu.lastFrame = t.ppu.framebuffer ∧
      t.ppu.mode = .vblank ∧ t.ppu.ly = 144 ∧ t.ppu.winLine = 0) := by
  have hv : (s.tickWithin.ppu.ly.toNat + 1) % 154 = 144 := by rw [s.tickWithin_ppu]; exact (vblank_follows_iff _).2 hly
  have hbit : s.ppuTick.intr.iflag.getLsbD 0 = true := by
    rw [s.ppuTick_eq ho, s.ppuAdvance_of_lineEnd hd]
    exact (State.statEdge_requests _ _).1 0 (State.endLine_requests_vblank _ hv)
  obtain ⟨c, hc⟩ := s.ppuTick_ppu_lineEnd ho hd
  rw [State.lineStart_of_vblank _ hv, State.lineDone_ppu] at hc
  refine ⟨hbit, ?_⟩
  rw [hc]
  exact ⟨rfl, rfl, rfl, by rw [s.tickWithin_ppu, hly]; rfl, rfl⟩

/-- Every other tick leaves the V-blank request and the completed frame. -/
theorem State.ppuTick_keeps_frame (s : State) (ho : s.lcdOn = true) (h : ¬ (s.ppu.ly = 143 ∧ s.ppu.dot = 455)) :
    (let t := s.ppuTick
     t.intr.iflag.getLsbD 0 = s.intr.iflag.getLsbD 0 ∧ t.ppu.frameComplete = s.ppu.frameComplete ∧
      t.ppu.lastFrame = s.ppu.lastFrame) := by
  have hwithin := s.tickWithin_requests
  have hedge := State.statEdge_requests s s.ppuAdvance
  by_cases hd : s.ppu.dot = 455
  · have hv : (s.tickWithin.ppu.ly.toNat + 1) % 154 ≠ 144 := by
      rw [s.tickWithin_ppu]; exact fun hn => h ⟨(vblank_follows_iff _).1 hn, hd⟩
    obtain ⟨c, hc⟩ := s.ppuTick_ppu_lineEnd ho hd
    obtain ⟨hcomplete, hlast⟩ := s.tickWithin.lineStart_keeps_frame hv
    rw [s.tickWithin_ppu] at hcomplete hlast
    rw [s.ppuAdvance_of_lineEnd hd] at hedge
    refine ⟨?_, by rw [hc]; exact hcomplete, by rw [hc]; exact hlast⟩
    rw [s.ppuTick_eq ho, s.ppuAdvance_of_lineEnd hd]
    exact ((hwithin.trans (State.endLine_requests_stat _ hv)).trans hedge).2 0 (by decide)
  · rw [s.ppuAdvance_of_within hd] at hedge
    refine ⟨?_, by rw [s.ppuTick_ppu_within ho hd], by rw [s.ppuTick_ppu_within ho hd]⟩
    rw [s.ppuTick_eq ho, s.ppuAdvance_of_within hd]
    exact (hwithin.trans hedge).2 0 (by decide)

/-- Settles O47: only the line after 143 starts with V-blank. -/
theorem vblankEntry : Obligations.VblankEntry := fun s ho =>
  ⟨fun ⟨hly, hd⟩ => s.ppuTick_enters_vblank ho hly hd, s.ppuTick_keeps_frame ho⟩

/-! ## LCD STAT -/

/-- What asks for LCD STAT at a tick under the events model (R1101, R1102, R1106). -/
def State.tickAsksStat (s : State) : Prop :=
  (s.ppu.ly.toNat < 144 ∧ s.ppu.dot + 1 = 80 + s.launch.params.mode3T ∧ s.ppu.statEnables.getLsbD 0 = true) ∨
    (s.ppu.dot = 455 ∧
      (((s.ppu.ly.toNat + 1) % 154 = 144 ∧ s.ppu.statEnables.getLsbD 1 = true) ∨
        ((s.ppu.ly.toNat + 1) % 154 < 144 ∧ s.ppu.statEnables.getLsbD 2 = true) ∨
        ((s.ppu.ly.toNat + 1) % 154 = s.ppu.lyc.toNat ∧ s.ppu.statCoincidence = false ∧
          s.ppu.statEnables.getLsbD 3 = true)))

/-- A tick asks for LCD STAT under the events model alone, the STAT line aside. -/
theorem State.ppuAdvance_stat (s : State) (ho : s.lcdOn = true) : s.ppuAdvance.intr.iflag.getLsbD 1 = true ↔
    s.intr.iflag.getLsbD 1 = true ∨ s.launch.params.statIrqModel = .events ∧ s.tickAsksStat := by
  have hwithin : s.tickWithin.intr.iflag.getLsbD 1 = true ↔ s.intr.iflag.getLsbD 1 = true ∨
      s.launch.params.statIrqModel = .events ∧ s.ppu.ly.toNat < 144 ∧ s.ppu.dot + 1 = 80 + s.launch.params.mode3T ∧
        s.ppu.statEnables.getLsbD 0 = true := by
    rw [s.tickWithin_iflag, stat_bit]
    tauto
  unfold State.tickAsksStat
  by_cases hd : s.ppu.dot = 455
  · have hend := s.tickWithin.endLine_stat (by rw [s.tickWithin_lcdOn, ho])
    rw [hwithin, s.tickWithin_ppu, s.tickWithin_launch] at hend
    rw [s.ppuAdvance_of_lineEnd hd, hend]
    simp only [hd, true_and, and_or_left, or_assoc]
  · rw [s.ppuAdvance_of_within hd, hwithin]
    simp only [hd, false_and, or_false]

/-- The STAT line, written out on the enables, the mode and the coincidence bit (R1107). -/
theorem State.statLine_iff (s : State) : s.statLine = true ↔ s.lcdOn = true ∧
    ((s.ppu.statEnables.getLsbD 0 = true ∧ s.ppu.mode = .hblank) ∨
      (s.ppu.statEnables.getLsbD 1 = true ∧ s.ppu.mode = .vblank) ∨
      (s.ppu.statEnables.getLsbD 2 = true ∧ s.ppu.mode = .oamScan) ∨
      (s.ppu.statEnables.getLsbD 3 = true ∧ s.ppu.statCoincidence = true)) := by
  unfold State.statLine State.lycSource
  cases s.ppu.mode <;> simp [modeIrqEnabled]

/-- The compare asks for LCD STAT under the events model alone (R1106). -/
theorem State.lycCompare_stat (s : State) : s.lycCompare.intr.iflag.getLsbD 1 = true ↔ s.intr.iflag.getLsbD 1 = true ∨
    s.launch.params.statIrqModel = .events ∧ s.lcdOn = true ∧ s.ppu.ly = s.ppu.lyc ∧ s.ppu.statCoincidence = false ∧
      s.ppu.statEnables.getLsbD 3 = true := by
  cases ho : s.lcdOn with
  | false => simp [s.lycCompare_off ho]
  | true =>
    rw [s.lycCompare_iflag ho, stat_bit]
    tauto

/-! ### The events model -/

theorem State.ppuTick_stat_events (s : State) (hm : s.launch.params.statIrqModel = .events) (ho : s.lcdOn = true) :
    s.ppuTick.intr.iflag.getLsbD 1 = true ↔ s.intr.iflag.getLsbD 1 = true ∨ s.tickAsksStat := by
  rw [s.ppuTick_eq ho, State.statEdge_events _ _ (by rw [s.ppuAdvance_launch, hm]), s.ppuAdvance_stat ho, hm]
  simp

theorem State.statWrite_intr_events (s : State) (v : Byte) (hm : s.launch.params.statIrqModel = .events) :
    (s.statWrite v).intr = s.intr := by
  rw [State.statWrite, State.statEdge_events]
  exact hm

theorem State.lycWrite_stat_events (s : State) (v : Byte) (hm : s.launch.params.statIrqModel = .events) :
    (s.lycWrite v).intr.iflag.getLsbD 1 = true ↔ s.intr.iflag.getLsbD 1 = true ∨
      s.lcdOn = true ∧ s.ppu.ly = v ∧ s.ppu.statCoincidence = false ∧ s.ppu.statEnables.getLsbD 3 = true := by
  rw [State.lycWrite, State.statEdge_events _ _ (by rw [State.lycCompare_launch]; exact hm), State.lycCompare_stat]
  exact or_congr_right (and_iff_right hm)

/-! ### The line model -/

/-- An operation that requests nothing itself requests LCD STAT exactly when the STAT line rises (R1107). -/
theorem State.statEdge_stat_line (b a : State) (hm : a.launch.params.statIrqModel = .line)
    (hi : a.intr.iflag.getLsbD 1 = true ↔ b.intr.iflag.getLsbD 1 = true) :
    (State.statEdge b a).intr.iflag.getLsbD 1 = true ↔
      b.intr.iflag.getLsbD 1 = true ∨ (¬ b.statLine = true ∧ (State.statEdge b a).statLine = true) := by
  rw [State.statEdge_line b a hm, hi, State.statEdge_statLine, Bool.not_eq_true]

theorem State.ppuTick_stat_line (s : State) (hm : s.launch.params.statIrqModel = .line) :
    s.ppuTick.intr.iflag.getLsbD 1 = true ↔
      s.intr.iflag.getLsbD 1 = true ∨ (¬ s.statLine = true ∧ s.ppuTick.statLine = true) := by
  cases ho : s.lcdOn with
  | false =>
    rw [(s.lcd_off ho).1]
    exact (or_iff_left fun h => h.1 h.2).symm
  | true =>
    rw [s.ppuTick_eq ho]
    exact State.statEdge_stat_line _ _ (by rw [s.ppuAdvance_launch, hm]) (by rw [s.ppuAdvance_stat ho, hm]; simp)

theorem State.statWrite_stat_line (s : State) (v : Byte) (hm : s.launch.params.statIrqModel = .line) :
    (s.statWrite v).intr.iflag.getLsbD 1 = true ↔
      s.intr.iflag.getLsbD 1 = true ∨ (¬ s.statLine = true ∧ (s.statWrite v).statLine = true) :=
  State.statEdge_stat_line _ _ hm Iff.rfl

theorem State.lycWrite_stat_line (s : State) (v : Byte) (hm : s.launch.params.statIrqModel = .line) :
    (s.lycWrite v).intr.iflag.getLsbD 1 = true ↔
      s.intr.iflag.getLsbD 1 = true ∨ (¬ s.statLine = true ∧ (s.lycWrite v).statLine = true) := by
  refine State.statEdge_stat_line _ _ (by rw [State.lycCompare_launch]; exact hm) ?_
  rw [State.lycCompare_stat]
  exact or_iff_left fun h => StatIrqModel.noConfusion (hm.symm.trans h.1)

/-! ### The LCD switch -/

theorem State.switchOnEdge_stat (s : State) : s.switchOnEdge.intr.iflag.getLsbD 1 = true ↔
    s.intr.iflag.getLsbD 1 = true ∨ s.launch.params.statIrqModel = .line ∧ s.lycSource = true := by
  rw [s.switchOnEdge_iflag, stat_bit]

/-- The end of the switch-on at LY 0 asks for LCD STAT when LYC is 0 and STAT[6] is set, under the events model only if the coincidence
bit was 0 (R1118, log 14). -/
theorem State.switchOn_stat (s : State) (ho : s.lcdOn = true) (hly : s.ppu.ly = 0) :
    s.lycCompare.switchOnEdge.intr.iflag.getLsbD 1 = true ↔ s.intr.iflag.getLsbD 1 = true ∨
      s.ppu.lyc = 0 ∧ s.ppu.statEnables.getLsbD 3 = true ∧
        (s.launch.params.statIrqModel = .events ∧ s.ppu.statCoincidence = false ∨
          s.launch.params.statIrqModel = .line) := by
  have hz : s.ppu.ly = s.ppu.lyc ↔ s.ppu.lyc = 0 := by rw [hly]; exact eq_comm
  rw [State.switchOnEdge_stat, State.lycCompare_stat, State.lycSource_lycCompare _ ho, State.lycCompare_launch,
    Bool.and_eq_true, decide_eq_true_eq, hz]
  tauto

/-- A write of LCDC asks for LCD STAT only when it switches the LCD on (R1118). -/
theorem State.lcdcWrite_stat (s : State) (v : Byte) : (s.lcdcWrite v).intr.iflag.getLsbD 1 = true ↔
    s.intr.iflag.getLsbD 1 = true ∨ (s.lcdOn = false ∧ v.getLsbD 7 = true) ∧ s.ppu.lyc = 0 ∧
      s.ppu.statEnables.getLsbD 3 = true ∧
        (s.launch.params.statIrqModel = .events ∧ s.ppu.statCoincidence = false ∨
          s.launch.params.statIrqModel = .line) := by
  by_cases hsame : s.lcdOn = v.getLsbD 7
  · rw [s.lcdcWrite_same v hsame, hsame]
    simp
  · cases hs : s.lcdOn with
    | true =>
      rw [s.lcdcWrite_off v hs (by simpa [hs] using hsame)]
      simp
    | false =>
      have hv : v.getLsbD 7 = true := by simpa [hs] using hsame
      rw [s.lcdcWrite_on v hs hv, and_iff_right (And.intro rfl hv)]
      exact State.switchOn_stat (State.restartLine { s with ppu := { s.ppu with lcdc := v } } .oamScan) hv rfl

/-- Settles O48: under the events model each operation's own requests, under the line model the line's rising edge. -/
theorem statRequests : Obligations.StatRequests := by
  intro s v
  have hlcdc : s.busWrite 0xFF40 v = s.lcdcWrite v := s.busWrite_io _ v .lcdc rfl rfl
  have hstat : s.busWrite 0xFF41 v = s.statWrite v := s.busWrite_io _ v .stat rfl rfl
  have hlyc : s.busWrite 0xFF45 v = s.lycWrite v := s.busWrite_io _ v .lyc rfl rfl
  rw [hlcdc, hstat, hlyc]
  refine ⟨fun hm => ⟨s.ppuTick_stat_events hm, s.statWrite_intr_events v hm, s.lycWrite_stat_events v hm, ?_⟩,
    fun hm => ⟨fun t ht => ?_, ?_⟩⟩
  · refine (s.lcdcWrite_stat v).trans (or_congr_right ?_)
    simp only [hm]
    tauto
  · simp only [← State.statLine_iff]
    obtain rfl | rfl | rfl := ht
    · exact s.ppuTick_stat_line hm
    · exact s.statWrite_stat_line v hm
    · exact s.lycWrite_stat_line v hm
  · refine (s.lcdcWrite_stat v).trans (or_congr_right ?_)
    simp only [hm]
    tauto

end Sys2Proof.Machine
end

section
/-! Steps that are not an ordinary instruction's (60_exceptions.md R1000): taking an interrupt, idling and waking, the DecodeError, and
the steps of RunFrame (R1096). -/

namespace Sys2Proof.Machine

/-! ## Taking an interrupt (R1020-R1024) -/

theorem step_of_interrupted (s : State) (hrun : s.cpu.run = .running) (hint : s.interrupted) :
    step s = .next (State.advanceDevices 20 s.takeInterrupt) := by
  have hfinish : State.finishStep 0 s s.takeInterrupt = State.advanceDevices 20 s.takeInterrupt := by
    rw [State.finishStep, s.takeInterrupt_cycles, Nat.zero_add, Nat.add_sub_cancel_left]
    rfl
  rw [step, State.stepOnce, hrun, ← hfinish]
  exact if_pos hint

/-- Settles O30: the step takes the first pending interrupt, which is source `k`. -/
theorem interruptIsTaken : Obligations.InterruptIsTaken := by
  intro s k hrun hime hk hreq hlower
  have hbit : (firstPending s.pending).bit = k :=
    firstPending_bit _ k hk ((s.pending_getLsbD k hk).trans hreq) fun j hj =>
      (s.pending_getLsbD j (hj.trans hk)).trans (hlower j hj)
  have hint : s.interrupted := ⟨hime, s.pending_ne_zero_iff.2 ⟨k, hk, hreq⟩⟩
  rw [step_of_interrupted s hrun hint, s.takeInterrupt_eq]
  simp only [State.acknowledge, IntSource.vector, hbit]
  rfl

/-! ## Idling and waking (R1030, R1032) -/

/-- The state with the devices advanced for an extra cost, and the cost counted. -/
def State.afterExtra (u : State) (extra : Nat) : State :=
  { State.advanceDevices extra u with cycles := u.cycles + extra }

/-- The CPU awake at an extra cost does what it does at none, and then device time passes, unless it ends FAULTED. -/
theorem State.stepAwake_extra (s u : State) (extra : Nat) (hrun : s.cpu.run = .running)
    (h : State.stepAwake 0 s = .next u) :
    State.stepAwake extra s = .next (if u.cpu.run = .faulted then u else u.afterExtra extra) := by
  unfold State.stepAwake at h ⊢
  by_cases hint : s.cpu.ime = true ∧ s.pending ≠ 0
  · rw [if_pos hint] at h ⊢
    cases h
    have hawake : (State.finishStep 0 s s.takeInterrupt).cpu.run ≠ .faulted := by simp [hrun]
    rw [if_neg hawake, State.finishStep_extra]
    rfl
  · obtain ⟨done, hexec, -⟩ := exec_did s.afterFetch s.fetchedInstr
    rw [if_neg hint, State.runInstruction, hexec] at h ⊢
    cases h
    dsimp only
    by_cases hd : done.cpu.run = .faulted
    · rw [State.completeStep_of_faulted _ _ _ hd, State.completeStep_of_faulted _ _ _ hd]
      exact congrArg _ (if_pos rfl).symm
    · have hawake : (State.completeStep 0 s done).cpu.run ≠ .faulted := by
        rw [State.completeStep_of_not_faulted _ _ _ hd]
        simpa using hd
      rw [if_neg hawake, State.completeStep_of_not_faulted _ _ _ hd, State.completeStep_of_not_faulted _ _ _ hd,
        State.finishStep_extra]
      rfl

theorem step_of_woken (s : State) (hrun : s.cpu.run = .halted) (hp : s.pending ≠ 0) :
    step s = State.stepAwake s.launch.params.haltWakeExtraT (s.setRun .running) := by
  rw [step, State.stepOnce, hrun]
  exact if_neg hp

theorem step_setRun_running (s : State) : step (s.setRun .running) = State.stepAwake 0 (s.setRun .running) := rfl

/-- Settles O31: each step of a HALTED or STOPPED CPU is idling, or the running machine's with the wake's extra cost. -/
theorem haltedAndStoppedSteps : Obligations.HaltedAndStoppedSteps := by
  intro s
  refine ⟨fun hrun hp => ?_, fun hrun hp hextra => ?_, fun u hrun hp hu => ?_, fun hrun hl => ?_, fun hrun hl => ?_⟩
  · have hidle : step s = .next ((State.advanceDevices 4 s).tick 4) := by
      rw [step, State.stepOnce, hrun]
      exact if_pos hp
    rw [hidle, State.tick, State.advanceDevices_cycles]
  · rw [step_of_woken s hrun hp, hextra, step_setRun_running]
  · rw [step_of_woken s hrun hp]
    exact State.stepAwake_extra _ u _ rfl hu
  · rw [step, State.stepOnce, hrun]
    exact if_pos hl
  · rw [step_setRun_running, step, State.stepOnce, hrun]
    exact if_neg hl

/-! ## The DecodeError (R1050, R1053) -/

theorem State.fetchedInstr_eq (s : State) : ∃ b1 b2, s.fetchedInstr = decodeFetched s.opcode b1 b2 := by
  unfold State.fetchedInstr
  split
  · exact ⟨_, _, rfl⟩
  · split <;> exact ⟨_, _, rfl⟩

/-- An illegal opcode at PC is fetched as an illegal instruction, whose meaning is its own DecodeError's (R340, R905). -/
theorem State.exec_fetchedInstr_of_illegal (s : State) (h : s.opcode ∈ illegalBytes) (u : State) :
    exec s.fetchedInstr u = illegalOp s.opcode u := by
  obtain ⟨b1, b2, hfetch⟩ := s.fetchedInstr_eq
  obtain ⟨x, hx⟩ := (decodeFetched_illegal_iff s.opcode b1 b2).2 h
  obtain ⟨op, -, henc, hexec⟩ := illegal_byte x
  have hop := head?_encode_decodeFetched s.opcode b1 b2
  rw [hx, henc] at hop
  cases hop
  rw [hfetch, hx, hexec]

theorem illegalOp_of_not_permissive (op : Byte) (s : State) (hp : s.launch.params.permissiveIllegal = false) :
    illegalOp op s = .next (s.raiseDecodeError op) := by
  rw [illegalOp, if_neg (by simp [hp])]

/-- Undoing the step after the fetch and the DecodeError leaves FAULTED and the record alone. -/
theorem State.undoStep_raiseDecodeError (s : State) (op : Byte) :
    State.undoStep s (s.afterFetch.raiseDecodeError op) = { s with cpu := { s.cpu with
      run := .faulted, fault := some { addr := s.cpu.pc, opcode := op } } } := by
  obtain ⟨pc, d, hfetch⟩ := s.afterFetch_eq
  rw [hfetch]
  rfl

/-- Settles O33: the fetched instruction raises DecodeError, which the step undoes; a FAULTED step does nothing. -/
theorem decodeErrorStopsTheMachine : Obligations.DecodeErrorStopsTheMachine := by
  refine ⟨fun s hrun hint hp hop => ?_, fun s hrun => ?_⟩
  · have hp' : s.afterFetch.launch.params.permissiveIllegal = false := by
      obtain ⟨pc, d, hfetch⟩ := s.afterFetch_eq
      rw [hfetch]
      exact hp
    rw [step_of_running s hrun hint, State.runInstruction, s.exec_fetchedInstr_of_illegal hop,
      illegalOp_of_not_permissive _ _ hp']
    dsimp only
    rw [State.completeStep_of_faulted _ _ _ rfl, s.undoStep_raiseDecodeError]
    rfl
  · rw [step, State.stepOnce, hrun]

/-! ## RunFrame (R1096) -/

/-- Where RunFrame may end, `start` being the cycle count it began at. -/
def State.frameEnded (start : Nat) (t : State) : Prop :=
  t.ppu.frameComplete = true ∨ t.cpu.run = .faulted ∨ start + 70224 ≤ t.cycles

/-- The loop ends where it may, when it has steps left for the T-cycles that are missing at 4 each. -/
theorem runFrameLoop_ends (start fuel total : Nat) (s : State) (htotal : s.cycles = start + total)
    (hfuel : 70224 ≤ total + 4 * fuel) : ∃ t, runFrameLoop fuel total s = .next t ∧ t.frameEnded start := by
  induction fuel generalizing total s with
  | zero => exact ⟨s, rfl, .inr (.inr (by omega))⟩
  | succ fuel ih =>
    obtain ⟨t, hstep, -⟩ := step_stepped s
    obtain ⟨-, hcost⟩ := stepCostIsBounded s t hstep
    rw [runFrameLoop, hstep]
    dsimp only
    by_cases hrun : t.cpu.run = .faulted
    · exact ⟨t, if_pos (.inr (.inl hrun)), .inr (.inl hrun)⟩
    · obtain ⟨hlo, -⟩ := hcost hrun
      have hcycles : t.cycles = start + (total + stepCycles s t) := by unfold stepCycles; omega
      split
      · rename_i hend
        exact ⟨t, rfl, hend.imp_right (.imp_right fun h => by omega)⟩
      · exact ih _ t hcycles (by omega)

/-- Settles O60: 17556 steps of at least 4 T-cycles are 70224. -/
theorem runFrameEndsWhereTheSpecSays : Obligations.RunFrameEndsWhereTheSpecSays := fun s =>
  runFrameLoop_ends s.cycles 17556 0 { s with ppu := { s.ppu with frameComplete := false } } rfl (by decide)

end Sys2Proof.Machine
end

section
/-! Composing a line (60_exceptions.md R1110-R1117): the candidates of a column by OAM index, the shade they give it, and the row. -/

namespace Sys2Proof.Machine

/-! ## The candidates of a column (R1116) -/

/-- The OAM indices of the selected objects that show a pixel at column `x` of line `y`, in OAM order; none while LCDC[1] = 0. -/
def State.candidates (s : State) (y x : Nat) : List Nat :=
  if s.ppu.lcdc.getLsbD 1 = true then
    (((List.range 40).filter (s.entryOnLine y)).take s.launch.params.spritesPerLine).filter
      fun i => (s.object i).covers x && s.objPixel (s.object i) y x != 0
  else []

theorem State.topObject_eq (s : State) (y x : Nat) :
    s.topObject (s.lineObjects y) y x = bestObject ((s.candidates y x).map s.object) := by
  unfold State.topObject State.candidates
  rw [s.lineObjects_eq, List.filter_map]
  split <;> rfl

theorem State.candidates_pairwise (s : State) (y x : Nat) : (s.candidates y x).Pairwise (· < ·) := by
  unfold State.candidates
  split
  · exact List.pairwise_lt_range.sublist
      (List.filter_sublist.trans ((List.take_sublist _ _).trans List.filter_sublist))
  · exact .nil

/-- An object on the line shows a pixel at the column: it covers it with a colour index that is not 0. -/
theorem State.shows_iff (s : State) (y x i : Nat) (h : s.entryOnLine y i = true) :
    ((s.object i).covers x && s.objPixel (s.object i) y x != 0) = true ↔
      (s.oamField i 1).toNat ≤ x + 8 ∧ x < (s.oamField i 1).toNat ∧ s.entryColour y x i ≠ 0 := by
  have hcolour : s.objPixel (s.object i) y x = 0 ↔ s.entryColour y x i = 0 := by
    rw [← s.objPixel_toNat y x i h]
    exact BitVec.toNat_inj.symm
  rw [Bool.and_eq_true, bne_iff_ne, ne_eq, hcolour, Obj.covers, show (s.object i).x = s.oamField i 1 from rfl,
    Bool.and_eq_true, decide_eq_true_eq, decide_eq_true_eq, and_assoc]

theorem State.mem_candidates (s : State) (y x i : Nat) : i ∈ s.candidates y x ↔ s.candidate y x i := by
  unfold State.candidates State.candidate State.entrySelected
  by_cases hon : s.ppu.lcdc.getLsbD 1 = true
  · rw [if_pos hon, List.mem_filter, mem_take_filter_range, and_iff_right hon]
    exact and_congr_right fun hsel => s.shows_iff y x i hsel.2.1
  · rw [if_neg hon]
    exact iff_of_false List.not_mem_nil fun hc => hon hc.1

/-- `i` is the candidate with the smallest X, and of equal X the lowest in OAM (R1116 c). -/
def State.winner (s : State) (y x i : Nat) : Prop :=
  ∀ j, s.candidate y x j → (s.oamField i 1).toNat < (s.oamField j 1).toNat ∨
    (s.oamField i 1).toNat = (s.oamField j 1).toNat ∧ i ≤ j

theorem State.winner_unique (s : State) (y x i j : Nat) (hi : s.candidate y x i) (hj : s.candidate y x j)
    (hwi : s.winner y x i) (hwj : s.winner y x j) : i = j := by
  have hij := hwi j hj
  have hji := hwj i hi
  omega

/-- The object drawn at a column: none without a candidate, else the winner. -/
theorem State.topObject_cases (s : State) (y x : Nat) :
    (s.topObject (s.lineObjects y) y x = none ∧ ∀ i, ¬ s.candidate y x i) ∨
      ∃ i, s.topObject (s.lineObjects y) y x = some (s.object i) ∧ s.candidate y x i ∧ s.winner y x i := by
  rw [s.topObject_eq]
  cases hbest : bestObject ((s.candidates y x).map s.object) with
  | none =>
    rw [bestObject_none, List.map_eq_nil_iff] at hbest
    exact .inl ⟨rfl, fun i hi => List.not_mem_nil (hbest ▸ (s.mem_candidates y x i).2 hi)⟩
  | some o =>
    obtain ⟨i, hi, rfl, hfirst⟩ := bestObject_some s.object _ (s.candidates_pairwise y x) o hbest
    exact .inr ⟨i, rfl, (s.mem_candidates y x i).1 hi, fun j hj => hfirst j ((s.mem_candidates y x j).2 hj)⟩

/-! ## The shade of a column (R1117) -/

theorem bgShade_toNat (p : Ppu) (k : BitVec 2) :
    (bgShade p k).toNat = if p.lcdc.getLsbD 0 = true then paletteShade p.bgp k.toNat else 0 := by
  unfold bgShade
  split
  · exact shade_toNat _ _
  · rfl

theorem State.pixelShade_of_none (s : State) (objs : List Obj) (y x : Nat) (h : s.topObject objs y x = none) :
    s.pixelShade objs y x = bgShade s.ppu (s.bgIndex y x) := by
  simp only [State.pixelShade, h]

theorem State.pixelShade_of_some (s : State) (y x i : Nat) (h : s.topObject (s.lineObjects y) y x = some (s.object i))
    (hon : s.entryOnLine y i = true) : (s.pixelShade (s.lineObjects y) y x).toNat =
      if (s.oamField i 3).getLsbD 7 = true ∧ (s.bgIndex y x).toNat ≠ 0 then (bgShade s.ppu (s.bgIndex y x)).toNat
      else paletteShade (if (s.oamField i 3).getLsbD 4 = true then s.ppu.obp1 else s.ppu.obp0) (s.entryColour y x i) := by
  have hback : ((s.oamField i 3).getLsbD 7 && s.bgIndex y x != 0) = true ↔
      (s.oamField i 3).getLsbD 7 = true ∧ (s.bgIndex y x).toNat ≠ 0 := by
    rw [Bool.and_eq_true, bne_iff_ne, ne_eq, ne_eq, ← BitVec.toNat_inj]
    rfl
  simp only [State.pixelShade, h]
  rw [apply_ite BitVec.toNat, shade_toNat, s.objPixel_toNat y x i hon]
  exact if_congr hback rfl rfl

/-- With background and objects off every column has shade 0. -/
theorem State.pixelShade_of_off (s : State) (objs : List Obj) (y x : Nat) (h0 : s.ppu.lcdc.getLsbD 0 = false)
    (h1 : s.ppu.lcdc.getLsbD 1 = false) : s.pixelShade objs y x = 0 := by
  have htop : s.topObject objs y x = none := if_neg (Bool.eq_false_iff.1 h1)
  rw [s.pixelShade_of_none objs y x htop]
  exact if_neg (Bool.eq_false_iff.1 h0)

/-! ## The line -/

theorem State.lineShades_getElem? (s : State) (y x : Nat) (hx : x < 160) :
    (s.lineShades y)[x]? = some (s.pixelShade (s.lineObjects y) y x) := by
  simp [State.lineShades, hx]

theorem State.lineObjects_onLine (s : State) (y : Nat) (o : Obj) (h : o ∈ s.lineObjects y) :
    o.y.toNat ≤ y + 16 ∧ y + 16 < o.y.toNat + (if s.ppu.lcdc.getLsbD 2 = true then 16 else 8) := by
  have hon := (List.mem_filter.1 (List.mem_of_mem_take h)).2
  rw [Obj.onLine, Bool.and_eq_true, decide_eq_true_eq, decide_eq_true_eq] at hon
  exact hon

/-- The window covers a column of the line exactly when it is on the line: it reaches the last column (R1113, R1114). -/
theorem State.window_covers_some_iff (s : State) (y : Nat) :
    (List.range 160).any (windowCovers s.ppu y) = true ↔ s.windowOn y := by
  rw [List.any_eq_true]
  constructor
  · rintro ⟨x, -, hx⟩
    exact ((s.windowCovers_iff y x).1 hx).1
  · intro h
    obtain ⟨-, -, -, hwx⟩ := id h
    exact ⟨159, by simp, (s.windowCovers_iff y 159).2 ⟨h, hwx⟩⟩

/-- Settles O59: the row is the line's shades, and each column's shade is the background's or the winning candidate's. -/
theorem composeLineWritesItsRow : Obligations.ComposeLineWritesItsRow := by
  intro s y hy
  refine ⟨List.length_set, ⟨s.lineShades y, List.getElem?_set_self hy, s.lineShades_length y, rfl, fun x hx =>
    ⟨_, _, s.lineShades_getElem? y x hx, s.bgIndex_isBackColour y x, ?_⟩⟩, fun k hk => List.getElem?_set_ne hk.symm,
    fun hw => if_pos ((s.window_covers_some_iff y).2 hw), fun hw => if_neg (mt (s.window_covers_some_iff y).1 hw), rfl,
    List.length_take_le _ _, s.lineObjects_onLine y, fun h0 h1 => ?_⟩
  · rw [← bgShade_toNat]
    obtain ⟨htop, hnone⟩ | ⟨i, htop, hcand, hwin⟩ := s.topObject_cases y x
    · rw [s.pixelShade_of_none _ y x htop]
      exact ⟨fun _ => rfl, fun i hi => absurd hi (hnone i)⟩
    · refine ⟨fun hnone => absurd hcand (hnone i), fun j hj hwj => ?_⟩
      obtain rfl := s.winner_unique y x i j hcand hj hwin hwj
      obtain ⟨-, ⟨-, hon, -⟩, -⟩ := hcand
      exact s.pixelShade_of_some y x i htop hon
  · exact List.eq_replicate_iff.2 ⟨s.lineShades_length y, fun shade hshade => by
      obtain ⟨x, -, rfl⟩ := List.mem_map.1 hshade
      exact s.pixelShade_of_off _ y x h0 h1⟩

end Sys2Proof.Machine
end
